-- ==== Sys2Proof/Word.lean ====
section
/-! DEFINITION. The word types of the DUML-FIU: the byte that every store and every operand is made of
(spec/00_scope.md R6, R8), and the 16-bit half-word of the header word, the sequence ID and the whole-packet checksum. -/

namespace Sys2Proof

/-- One byte, bit 0 least significant (R6). -/
abbrev Byte := BitVec 8

/-- A 16-bit unsigned value: the header word, `SEQ`, `CHECKSUM`, `C16`, the operand `v` of WRF. -/
abbrev Half := BitVec 16

end Sys2Proof
end

