-- ==== Sys2Proof/Syntax.lean ====
section
/-! DEFINITION. The operations of the block: one constructor per row of spec/opcode_table.json, in the table's order,
with the operands of its command format (spec/30_encoding.md R72, R73). Operands are held as the command stream
carries them: a mode operand, a field selector or a NEW field is a whole byte, in range or not, because an
out-of-range operand is an operation that ends with `BadOperand`, not a command that does not exist (R72, R75). -/

namespace Sys2Proof

/-- The operands of NEW in the order of format R (R72): the mode byte, the twelve independent fields, the last of
them the payload. -/
structure NewArgs where
  m        : Byte
  version  : Byte
  srcType  : Byte
  srcIndex : Byte
  dstType  : Byte
  dstIndex : Byte
  seq      : Half
  dir      : Byte
  ack      : Byte
  enc      : Byte
  cmdset   : Byte
  cmd      : Byte
  payload  : List Byte
  deriving DecidableEq, Repr

/-- The nineteen operations (R73). A byte-sequence operand `in` is a list of bytes; its count `n` is its length. -/
inductive Instr where
  /-- `C16INIT` (R94), format N. -/
  | c16init
  /-- `C16UPD b` (R95), format B. -/
  | c16upd (b : Byte)
  /-- `C16BLK in` (R96), format S. -/
  | c16blk (data : List Byte)
  /-- `C8INIT` (R114), format N. -/
  | c8init
  /-- `C8UPD b` (R115), format B. -/
  | c8upd (b : Byte)
  /-- `C8BLK in` (R116), format S. -/
  | c8blk (data : List Byte)
  /-- `PKSRC` (R135), format N. -/
  | pksrc
  /-- `UPKSRC` (R136), format N. -/
  | upksrc
  /-- `PKDST` (R137), format N. -/
  | pkdst
  /-- `UPKDST` (R138), format N. -/
  | upkdst
  /-- `PKCT` (R139), format N. -/
  | pkct
  /-- `UPKCT` (R140), format N. -/
  | upkct
  /-- `DECODE m, in` (R150), format D. -/
  | decode (m : Byte) (data : List Byte)
  /-- `VALIDATE` (R152), format N. -/
  | validate
  /-- `ENCODE` (R153), format N. -/
  | encode
  /-- `NEW m, version, …, payload` (R154), format R. -/
  | new (a : NewArgs)
  /-- `WRF fsel, v` (R181), format W. -/
  | wrf (fsel : Byte) (v : Half)
  /-- `WRPAY in` (R182), format S. -/
  | wrpay (data : List Byte)
  /-- `WRRAW in` (R183), format S. -/
  | wrraw (data : List Byte)
  deriving DecidableEq, Repr

end Sys2Proof
end

