-- ==== Sys2Proof/WellFormed.lean ====
section
/-! DEFINITION. Which terms of `Instr` a command can spell: the count `n` of a byte-sequence operand is a 16-bit
number, so the sequence has at most `IN_MAX` = 65535 bytes (spec/30_encoding.md R72, spec/92_eei_decisions.md D4).
Every other operand field is exactly as wide as its Lean type, so there is nothing else to check. -/

namespace Sys2Proof

/-- `IN_MAX`, the largest byte-sequence operand a command can carry (R5, R72). -/
def inMax : Nat := 65535

/-- The byte-sequence operand of an operation, empty for a format that has none. -/
def Instr.operandBytes : Instr → List Byte
  | .c16init => []
  | .c16upd _ => []
  | .c16blk data => data
  | .c8init => []
  | .c8upd _ => []
  | .c8blk data => data
  | .pksrc => []
  | .upksrc => []
  | .pkdst => []
  | .upkdst => []
  | .pkct => []
  | .upkct => []
  | .decode _ data => data
  | .validate => []
  | .encode => []
  | .new a => a.payload
  | .wrf _ _ => []
  | .wrpay data => data
  | .wrraw data => data

/-- A term of `Instr` that some command spells (R72). -/
abbrev Instr.wellFormed (i : Instr) : Prop := i.operandBytes.length ≤ inMax

end Sys2Proof
end

