-- ==== Sys2Proof/Decode.lean ====
section
/-! DEFINITION. The command stream (spec/30_encoding.md part 2): byte order, the decoder of one command from the
bytes the host presents on the command port, total on any bytes, and the encoder written from the same formats. -/

namespace Sys2Proof

/-! Byte order of the command stream and of the little-endian frame fields (R42, R71). -/

/-- The low byte of a 16-bit value, bits 7:0. -/
def loByte (w : Half) : Byte := w.extractLsb' 0 8

/-- The high byte of a 16-bit value, bits 15:8. -/
def hiByte (w : Half) : Byte := w.extractLsb' 8 8

/-- The 16-bit value whose low byte is `lo` and whose high byte is `hi`: `zext_16(lo) | (zext_16(hi) << 8)`. -/
def word16 (lo hi : Byte) : Half := lo.setWidth 16 ||| (hi.setWidth 16 <<< 8)

/-! The decoder. -/

/-- What the block makes of the bytes on its command port. -/
inductive Decoded where
  /-- A whole command, with the bytes that follow it. -/
  | instr (i : Instr) (rest : List Byte)
  /-- The first byte is no operation code: that ONE byte is consumed (R75). -/
  | illegalOp (op : Byte) (rest : List Byte)
  /-- No byte, or not yet all the bytes of the command: the block waits for the rest (R71). -/
  | incomplete
  deriving DecidableEq, Repr

/-- The operand part of formats S, D and R: the 16-bit count `n`, low byte first, then `n` bytes (R72). The bytes
taken and those left, or nothing while fewer than `n` bytes have come. -/
def takeCounted : List Byte → Option (List Byte × List Byte)
  | lo :: hi :: bytes =>
    if (word16 lo hi).toNat ≤ bytes.length then
      some (bytes.take (word16 lo hi).toNat, bytes.drop (word16 lo hi).toNat)
    else none
  | _ => none

/-- Format N after the operation code: nothing. -/
def formatN (i : Instr) (bytes : List Byte) : Decoded := .instr i bytes

/-- Format B after the operation code: `b`. -/
def formatB (f : Byte → Instr) : List Byte → Decoded
  | b :: rest => .instr (f b) rest
  | [] => .incomplete

/-- Format S after the operation code: `n`, then `n` bytes. -/
def formatS (f : List Byte → Instr) (bytes : List Byte) : Decoded :=
  match takeCounted bytes with
  | some (data, rest) => .instr (f data) rest
  | none => .incomplete

/-- Format D after the operation code: `m`, `n`, then `n` bytes. -/
def formatD : List Byte → Decoded
  | m :: bytes => formatS (.decode m) bytes
  | [] => .incomplete

/-- Format W after the operation code: `fsel`, then `v`, low byte first. -/
def formatW : List Byte → Decoded
  | fsel :: lo :: hi :: rest => .instr (.wrf fsel (word16 lo hi)) rest
  | _ => .incomplete

/-- Format R after the operation code: thirteen operand bytes (`seq` is two of them, low byte first), `n`, then the
`n` payload bytes. -/
def formatR : List Byte → Decoded
  | m :: version :: srcType :: srcIndex :: dstType :: dstIndex :: seqLo :: seqHi :: dir :: ack :: enc :: cmdset :: cmd
      :: bytes =>
    formatS (fun payload => .new
      { m := m, version := version, srcType := srcType, srcIndex := srcIndex, dstType := dstType,
        dstIndex := dstIndex, seq := word16 seqLo seqHi, dir := dir, ack := ack, enc := enc, cmdset := cmdset,
        cmd := cmd, payload := payload }) bytes
  | _ => .incomplete

/-- The operation code map (R73): the format that reads what follows each operation code. -/
def decodeOp (op : Byte) (bytes : List Byte) : Decoded :=
  match op.toNat with
  | 0x10 => formatN .c16init bytes
  | 0x11 => formatB .c16upd bytes
  | 0x12 => formatS .c16blk bytes
  | 0x18 => formatN .c8init bytes
  | 0x19 => formatB .c8upd bytes
  | 0x1A => formatS .c8blk bytes
  | 0x20 => formatN .pksrc bytes
  | 0x21 => formatN .upksrc bytes
  | 0x22 => formatN .pkdst bytes
  | 0x23 => formatN .upkdst bytes
  | 0x24 => formatN .pkct bytes
  | 0x25 => formatN .upkct bytes
  | 0x40 => formatD bytes
  | 0x41 => formatN .validate bytes
  | 0x42 => formatN .encode bytes
  | 0x43 => formatR bytes
  | 0x50 => formatW bytes
  | 0x51 => formatS .wrpay bytes
  | 0x5F => formatS .wrraw bytes
  | _ => .illegalOp op bytes

/-- One command read from the command port (R71): the operation code byte, then what its format calls for. -/
def decode : List Byte → Decoded
  | op :: bytes => decodeOp op bytes
  | [] => .incomplete

/-! The encoder, from the same tables. -/

/-- The operation code of each operation (R73). -/
def opcode : Instr → Byte
  | .c16init => 0x10
  | .c16upd _ => 0x11
  | .c16blk _ => 0x12
  | .c8init => 0x18
  | .c8upd _ => 0x19
  | .c8blk _ => 0x1A
  | .pksrc => 0x20
  | .upksrc => 0x21
  | .pkdst => 0x22
  | .upkdst => 0x23
  | .pkct => 0x24
  | .upkct => 0x25
  | .decode _ _ => 0x40
  | .validate => 0x41
  | .encode => 0x42
  | .new _ => 0x43
  | .wrf _ _ => 0x50
  | .wrpay _ => 0x51
  | .wrraw _ => 0x5F

/-- A 16-bit operand, low byte first (R71). -/
def encodeHalf (w : Half) : List Byte := [loByte w, hiByte w]

/-- A byte-sequence operand: its count `n`, then its bytes (R72). -/
def encodeCounted (data : List Byte) : List Byte := encodeHalf (BitVec.ofNat 16 data.length) ++ data

/-- The operand bytes of an operation, in the order of its format (R72). -/
def encodeOperands : Instr → List Byte
  | .c16init => []
  | .c16upd b => [b]
  | .c16blk data => encodeCounted data
  | .c8init => []
  | .c8upd b => [b]
  | .c8blk data => encodeCounted data
  | .pksrc => []
  | .upksrc => []
  | .pkdst => []
  | .upkdst => []
  | .pkct => []
  | .upkct => []
  | .decode m data => m :: encodeCounted data
  | .validate => []
  | .encode => []
  | .new a =>
    [a.m, a.version, a.srcType, a.srcIndex, a.dstType, a.dstIndex] ++ encodeHalf a.seq
      ++ [a.dir, a.ack, a.enc, a.cmdset, a.cmd] ++ encodeCounted a.payload
  | .wrf fsel v => fsel :: encodeHalf v
  | .wrpay data => encodeCounted data
  | .wrraw data => encodeCounted data

/-- The bytes of a command, first byte first (R71). -/
def encode (i : Instr) : List Byte := opcode i :: encodeOperands i

/-! One row of the opcode table as a command. -/

/-- The longest command with an empty byte sequence: NEW, 16 bytes (R72). -/
def longestCommand : Nat := 16

/-- The bytes of a command whose first `nbits` bits are `w`, numbered as spec/opcode_table.json numbers them, and
whose further bytes are zero. -/
def tableWordBytes (nbits w : Nat) : List Byte :=
  (List.range (nbits / 8)).map (fun k => BitVec.ofNat 8 (w / 256 ^ k)) ++ List.replicate (longestCommand - nbits / 8) 0

/-- The operation the decoder reads from a command whose first `nbits` bits are `w` and whose further bits are 0. -/
def decodeTableWord (nbits w : Nat) : Option Instr :=
  match decode (tableWordBytes nbits w) with
  | .instr i _ => some i
  | .illegalOp _ _ => none
  | .incomplete => none

end Sys2Proof
end

