-- ==== Sys2Proof/Config.lean ====
section
/-! DEFINITION. What an implementation fixes: the four checksum numbers as fields of a configuration
(spec/92_eei_decisions.md D6, spec/93_implementation_defined.md part 2), and the one open parameter, HEX_CASE.
The values this hardware takes for the four numbers are `Sys2Proof.Machine.fiu`, in Machine/Params.lean. -/

namespace Sys2Proof

/-- The numeric parameters of the two checksum functions (R5, R90, R110). -/
structure Config where
  /-- `POLY16`, the reflected generator polynomial of Checksum16. -/
  poly16 : Half
  /-- `SEED16`, the initial value of Checksum16. -/
  seed16 : Half
  /-- `POLY8`, the reflected generator polynomial of Checksum8. -/
  poly8 : Byte
  /-- `SEED8`, the initial value of Checksum8. -/
  seed8 : Byte
  deriving DecidableEq, Repr

/-- The two letter cases the hex digits of TOHEX can have (R79). -/
inductive HexCase where
  | lower
  | upper
  deriving DecidableEq, Repr, Inhabited

/-- `HEX_CASE` (R5, R79): the spec leaves it open with no default and no claim may depend on it.
A FREE VALUE: it has no body, so no proof can see which case it is (assumption log 6). -/
opaque Config.hexCase : HexCase

end Sys2Proof
end

