-- ==== Sys2Proof/Machine/Params.lean ====
section
/-! DEFINITION. The implementation parameters of this hardware (spec/00_scope.md R5). -/

namespace Sys2Proof.Machine

/-- The four checksum numbers of this hardware (R90, R110). The spec takes them from general knowledge and checks them
against its one source vector (spec/93_implementation_defined.md G1, G2; assumption log 1). -/
def fiu : Config :=
  { poly16 := 0x8408, seed16 := 0x3692, poly8 := 0x8C, seed8 := 0x77 }

/-- `MAGIC`, frame byte 0 (R61). -/
def magic : Byte := 0x55

/-- `MIN_FRAME`, the bytes of a frame with an empty payload (R60). -/
def minFrame : Nat := 13

/-- `FIXED_BEFORE_PAYLOAD`, the frame offset of payload byte 0 (R60). -/
def payloadOffset : Nat := 11

/-- `MAX_PAYLOAD`, the largest payload whose frame length fits the 10-bit `LENGTH` (R16). -/
def maxPayload : Nat := 1010

end Sys2Proof.Machine
end

