-- ==== Sys2Proof/Machine/State.lean ====
section
/-! DEFINITION. The state of one DUML-FIU (spec/10_state.md R10), its inputs, the reasons a step could stop, and the
state after reset (R27, R230). -/

namespace Sys2Proof.Machine

/-- `MODE`, a 1-bit register (R19). Its code is `Mode.code`. -/
inductive Mode where
  /-- `0`, auto-recalculating. -/
  | auto
  /-- `1`, frozen. -/
  | frozen
  deriving DecidableEq, Repr

/-- `ERR`, a 4-bit register: OK or one of the ten error kinds (R22, R200). Its code is `Err.code`; codes 11 to 15 are
never written, so they have no constructor (spec/93_implementation_defined.md U8). -/
inductive Err where
  | ok
  | tooSmall
  | badMagic
  | lengthExceedsBuffer
  | immutableRawBuffer
  | malformedHex
  | lengthBelowMinimum
  | noPacket
  | illegalOp
  | badOperand
  | refused
  deriving DecidableEq, Repr

/-- The whole state of one block (R10), then the two inputs through which the host acts on it. -/
structure State where
  /-- `VERSION` (R11). -/
  version : BitVec 6
  /-- `LENGTH` (R11). -/
  length : BitVec 10
  /-- `HCRC`, the stored header checksum (R12). -/
  hcrc : BitVec 8
  /-- `SRC_RAW` (R13). -/
  srcRaw : BitVec 8
  /-- `DST_RAW` (R13). -/
  dstRaw : BitVec 8
  /-- `SRC_TYPE` (R13). -/
  srcType : BitVec 5
  /-- `SRC_INDEX` (R13). -/
  srcIndex : BitVec 3
  /-- `DST_TYPE` (R13). -/
  dstType : BitVec 5
  /-- `DST_INDEX` (R13). -/
  dstIndex : BitVec 3
  /-- `SEQ` (R14). -/
  seq : BitVec 16
  /-- `CT_RAW` (R15). -/
  ctRaw : BitVec 8
  /-- `CT_DIR` (R15). -/
  ctDir : BitVec 1
  /-- `CT_ACK` (R15). -/
  ctAck : BitVec 2
  /-- `CT_ENC` (R15). -/
  ctEnc : BitVec 4
  /-- `CMDSET` (R15). -/
  cmdset : BitVec 8
  /-- `CMD` (R15). -/
  cmd : BitVec 8
  /-- `CHECKSUM`, the stored whole-packet checksum (R12). -/
  checksum : BitVec 16
  /-- `PAY`, the payload store: byte `i` at list index `i` (R16, R41). -/
  pay : List Byte
  /-- `PAYLEN` (R16). -/
  payLen : BitVec 10
  /-- `RAW`, the frame store: the frame byte at offset `i` at list index `i` (R17, R40). -/
  raw : List Byte
  /-- `RAWLEN` (R17); 0 means that no packet is present (R26). -/
  rawLen : BitVec 10
  /-- `C16`, the CRC-16 accumulator (R18). -/
  c16 : BitVec 16
  /-- `C8`, the header checksum accumulator (R18). -/
  c8 : BitVec 8
  /-- `MODE` (R19). -/
  mode : Mode
  /-- `CHANGED` (R20). -/
  changed : Bool
  /-- `VALID` (R21). -/
  valid : Bool
  /-- `ERR` (R22). -/
  err : Err
  /-- INPUT: the bytes the host has presented on the command port and the block has not yet consumed, the oldest first
  (R71). The model's own field, not a register of the block (assumption log 2). -/
  port : List Byte
  /-- INPUT: whether the reset input is asserted (R230). The model's own field (assumption log 4). -/
  rst : Bool
  deriving DecidableEq, Repr

/-- Why a step stops the machine. The spec gives the block no such event: every error is an outcome in `ERR` (R206). -/
inductive Fault where
  /-- SAFE. Raised by VALIDATE when it reads `RAW`, and by ENCODE, WRF and WRPAY when they lay `PAY` into the frame, if
  a byte they read does not exist: a store holding fewer bytes than its length register says (R40). No state that
  `Memory.wf` describes raises it, and every run from reset stays in those (assumption log 5). -/
  | noSuchByte
  deriving DecidableEq, Repr

/-- Why the model gives an operation no meaning. -/
inductive Refusal where
  /-- SAFE. Raised by an arm of `exec` whose operation is not modelled, with its mnemonic. No arm raises it: all
  nineteen operations have their meaning. -/
  | notModelled (mnemonic : String)
  deriving DecidableEq, Repr

/-- The state when the reset input is released (R27, R230): no packet present, every field register 0, the accumulators
seeded, auto mode, no flag set, `ERR` OK; and no byte presented. -/
def State.reset : State :=
  { version := 0, length := 0, hcrc := 0, srcRaw := 0, dstRaw := 0, srcType := 0, srcIndex := 0, dstType := 0,
    dstIndex := 0, seq := 0, ctRaw := 0, ctDir := 0, ctAck := 0, ctEnc := 0, cmdset := 0, cmd := 0, checksum := 0,
    pay := [], payLen := 0, raw := [], rawLen := 0, c16 := fiu.seed16, c8 := fiu.seed8, mode := .auto,
    changed := false, valid := false, err := .ok, port := [], rst := false }

end Sys2Proof.Machine
end

