-- ==== Sys2Proof/Machine/Ops.lean ====
section
/-! DEFINITION. The operations the meanings share: how an operation ends, with its result or with an error
(spec/60_exceptions.md R206, R207), the packet-present check (R26), the two stores (spec/20_memory.md R40, R41), and the
inputs. There is no return from an error to model: `ERR` is overwritten by the next operation (R207). -/

namespace Sys2Proof.Machine

/-- What an operation, or a step, answers. -/
abbrev Result := Host.Outcome State Fault Refusal

/-! How an operation ends. -/

/-- `raise <Kind>`: `ERR` receives the code and nothing else changes (R9, R206). -/
def raise (e : Err) (s : State) : State := { s with err := e }

/-- `done`: the operation ends with `ERR` OK (R9). -/
def done (s : State) : State := raise .ok s

/-- An operation that ends with an error. -/
def endWith (e : Err) (s : State) : Result := .next (raise e s)

/-- An operation that ends with its result. -/
def finish (s : State) : Result := .next (done s)

/-- An operation that ends, with `done`, when a part of it has answered. -/
def thenFinish : Result → Result
  | .next s => finish s
  | .fault r => .fault r
  | .refused r => .refused r

/-- `if RAWLEN == 0: raise NoPacket`, before the body of an operation that needs a packet (R26). -/
def needPacket (s : State) (body : Result) : Result :=
  if s.rawLen = 0 then endWith .noPacket s else body

/-! The stores. A byte at an index the store does not hold does not exist (R40, R41). -/

/-- `RAW[i]` or `PAY[i]`: byte `i` of a store, nothing where it does not exist. -/
def Memory.read (store : List Byte) (i : Nat) : Option Byte := store[i]?

/-- `store[0 : n]`, nothing where one of its bytes does not exist (R8). -/
def Memory.prefix? (store : List Byte) (n : Nat) : Option (List Byte) :=
  if n ≤ store.length then some (store.take n) else none

/-- `PAY <- p`: the whole sequence is replaced and `PAYLEN` set to its length (R9, R41). -/
def writePay (p : List Byte) (s : State) : State :=
  { s with pay := p, payLen := BitVec.ofNat 10 p.length }

/-- `RAW <- f`: the whole sequence is replaced and `RAWLEN` set to its length (R9, R40). -/
def writeRaw (f : List Byte) (s : State) : State :=
  { s with raw := f, rawLen := BitVec.ofNat 10 f.length }

/-- The form of the stores: each holds exactly as many bytes as its length register says, the payload store at most
1010, the frame store none or at least 13 (R16, R17; the 10-bit `RAWLEN` keeps it to 1023). A store is the list of its
bytes from index 0, so equal contents are equal data. -/
abbrev Memory.wf (s : State) : Prop :=
  s.payLen.toNat = s.pay.length ∧ s.rawLen.toNat = s.raw.length ∧ s.pay.length ≤ maxPayload ∧
    (s.raw.length = 0 ∨ minFrame ≤ s.raw.length)

/-! The inputs. -/

/-- The bytes of a command leave the port, `rest` stays (R50, R71). -/
def consume (rest : List Byte) (s : State) : State := { s with port := rest }

/-- The block while its reset input is asserted: every register at its reset value, and no byte kept. R230 states neither
of the time before the release: DESIGN CHOICE, unsafe (assumption log 4). -/
def heldInReset : State := { State.reset with rst := true }

end Sys2Proof.Machine
end

