-- ==== Sys2Proof/Machine/Bitfield.lean ====
section
/-! DEFINITION. Unit U3, bitfield pack and unpack (spec/43_bitfield.md): the four pure functions, on arguments of exactly
the field widths (spec/93_implementation_defined.md U1), and the six operations that apply them between registers. -/

namespace Sys2Proof.Machine

/-- `packAddress(type, index)` (R130). -/
def packAddress (type : BitVec 5) (index : BitVec 3) : Byte := type.setWidth 8 ||| (index.setWidth 8 <<< 5)

/-- `unpackAddress(byte)` (R131): type in bits 4:0, index in bits 7:5. -/
def unpackAddress (b : Byte) : BitVec 5 × BitVec 3 := (b.extractLsb' 0 5, b.extractLsb' 5 3)

/-- `packCommandType(direction, ack, encryption)` (R132): bit 4 of the result is 0. -/
def packCommandType (d : BitVec 1) (a : BitVec 2) (e : BitVec 4) : Byte :=
  (d.setWidth 8 <<< 7) ||| (a.setWidth 8 <<< 5) ||| e.setWidth 8

/-- `unpackCommandType(byte)` (R133): direction bit 7, acknowledgement bits 6:5, encryption bits 3:0; bit 4 is read by
nothing. -/
def unpackCommandType (b : Byte) : BitVec 1 × BitVec 2 × BitVec 4 :=
  (b.extractLsb' 7 1, b.extractLsb' 5 2, b.extractLsb' 0 4)

/-- `SRC_RAW <- packAddress(SRC_TYPE, SRC_INDEX)`. -/
def packSrc (s : State) : State := { s with srcRaw := packAddress s.srcType s.srcIndex }

/-- `(SRC_TYPE, SRC_INDEX) <- unpackAddress(b)`. -/
def unpackSrc (b : Byte) (s : State) : State :=
  { s with srcType := (unpackAddress b).1, srcIndex := (unpackAddress b).2 }

/-- `DST_RAW <- packAddress(DST_TYPE, DST_INDEX)`. -/
def packDst (s : State) : State := { s with dstRaw := packAddress s.dstType s.dstIndex }

/-- `(DST_TYPE, DST_INDEX) <- unpackAddress(b)`. -/
def unpackDst (b : Byte) (s : State) : State :=
  { s with dstType := (unpackAddress b).1, dstIndex := (unpackAddress b).2 }

/-- `CT_RAW <- packCommandType(CT_DIR, CT_ACK, CT_ENC)`. -/
def packCt (s : State) : State := { s with ctRaw := packCommandType s.ctDir s.ctAck s.ctEnc }

/-- `(CT_DIR, CT_ACK, CT_ENC) <- unpackCommandType(b)`. -/
def unpackCt (b : Byte) (s : State) : State :=
  { s with ctDir := (unpackCommandType b).1, ctAck := (unpackCommandType b).2.1, ctEnc := (unpackCommandType b).2.2 }

/-- `PKSRC` (R135). -/
def execPksrc (s : State) : Result := needPacket s (finish (packSrc s))

/-- `UPKSRC` (R136). -/
def execUpksrc (s : State) : Result := needPacket s (finish (unpackSrc s.srcRaw s))

/-- `PKDST` (R137). -/
def execPkdst (s : State) : Result := needPacket s (finish (packDst s))

/-- `UPKDST` (R138). -/
def execUpkdst (s : State) : Result := needPacket s (finish (unpackDst s.dstRaw s))

/-- `PKCT` (R139). -/
def execPkct (s : State) : Result := needPacket s (finish (packCt s))

/-- `UPKCT` (R140). -/
def execUpkct (s : State) : Result := needPacket s (finish (unpackCt s.ctRaw s))

end Sys2Proof.Machine
end

