-- ==== Sys2Proof/Machine/Crc16.lean ====
section
/-! DEFINITION. Unit U1, the CRC-16 Kermit generator (spec/41_crc16.md): the function in its bit form, which defines it,
the bit-serial form, and the operations C16INIT, C16UPD, C16BLK. -/

namespace Sys2Proof.Machine

/-- One shift of the register: right by one bit, the polynomial in where a 1 falls out (R91). -/
def crc16Shift (k : Config) (c : Half) : Half :=
  if c.getLsbD 0 then (c >>> 1) ^^^ k.poly16 else c >>> 1

/-- `crc16_step(c, b)` (R91). -/
def crc16Step (k : Config) (c : Half) (b : Byte) : Half := (crc16Shift k)^[8] (c ^^^ b.setWidth 16)

/-- `Checksum16(s)` (R92). -/
def checksum16 (k : Config) (s : List Byte) : Half := s.foldl (crc16Step k) k.seed16

/-- One clock of the bit-serial form: bit `i` of `b` meets bit 0 of the register (R91). -/
def crc16SerialBit (k : Config) (b : Byte) (c : Half) (i : Nat) : Half :=
  if xor (c.getLsbD 0) (b.getLsbD i) then (c >>> 1) ^^^ k.poly16 else c >>> 1

/-- The bit-serial form of the step, the bits of `b` from bit 0 to bit 7 (R91). -/
def crc16Serial (k : Config) (c : Half) (b : Byte) : Half := (List.range 8).foldl (crc16SerialBit k b) c

/-- `C16INIT` (R94). -/
def execC16init (s : State) : Result := finish { s with c16 := fiu.seed16 }

/-- `C16UPD b` (R95). -/
def execC16upd (b : Byte) (s : State) : Result := finish { s with c16 := crc16Step fiu s.c16 b }

/-- `C16BLK in` (R96). -/
def execC16blk (data : List Byte) (s : State) : Result := finish { s with c16 := checksum16 fiu data }

end Sys2Proof.Machine
end

