-- ==== Sys2Proof/Machine/Crc8.lean ====
section
/-! DEFINITION. Unit U2, the 8-bit header checksum unit (spec/42_crc8.md): the function in its bit form, which defines
it, the bit-serial form, and the operations C8INIT, C8UPD, C8BLK. -/

namespace Sys2Proof.Machine

/-- One shift of the register: right by one bit, the polynomial in where a 1 falls out (R111). -/
def crc8Shift (k : Config) (c : Byte) : Byte :=
  if c.getLsbD 0 then (c >>> 1) ^^^ k.poly8 else c >>> 1

/-- `crc8_step(c, b)` (R111). -/
def crc8Step (k : Config) (c b : Byte) : Byte := (crc8Shift k)^[8] (c ^^^ b)

/-- `Checksum8(s)` (R112). -/
def checksum8 (k : Config) (s : List Byte) : Byte := s.foldl (crc8Step k) k.seed8

/-- One clock of the bit-serial form: bit `i` of `b` meets bit 0 of the register (R111). -/
def crc8SerialBit (k : Config) (b : Byte) (c : Byte) (i : Nat) : Byte :=
  if xor (c.getLsbD 0) (b.getLsbD i) then (c >>> 1) ^^^ k.poly8 else c >>> 1

/-- The bit-serial form of the step, the bits of `b` from bit 0 to bit 7 (R111). -/
def crc8Serial (k : Config) (c b : Byte) : Byte := (List.range 8).foldl (crc8SerialBit k b) c

/-- `C8INIT` (R114). -/
def execC8init (s : State) : Result := finish { s with c8 := fiu.seed8 }

/-- `C8UPD b` (R115). -/
def execC8upd (b : Byte) (s : State) : Result := finish { s with c8 := crc8Step fiu s.c8 b }

/-- `C8BLK in` (R116). -/
def execC8blk (data : List Byte) (s : State) : Result := finish { s with c8 := checksum8 fiu data }

end Sys2Proof.Machine
end

