-- ==== Sys2Proof/Machine/Flags.lean ====
section
/-! DEFINITION. The control and status registers as the host reads them, and the flag computations: `CHANGED` (R20) and
`VALID` (R21, R152). -/

namespace Sys2Proof.Machine

/-- The 1-bit code of `MODE` (R19). -/
def Mode.code : Mode → BitVec 1
  | .auto => 0
  | .frozen => 1

/-- The 4-bit code of `ERR` (R200). -/
def Err.code : Err → BitVec 4
  | .ok => 0
  | .tooSmall => 1
  | .badMagic => 2
  | .lengthExceedsBuffer => 3
  | .immutableRawBuffer => 4
  | .malformedHex => 5
  | .lengthBelowMinimum => 6
  | .noPacket => 7
  | .illegalOp => 8
  | .badOperand => 9
  | .refused => 10

/-- A field write that succeeds sets `CHANGED` (R20). -/
def markChanged (s : State) : State := { s with changed := true }

/-- The construction of a packet fixes `MODE` and clears `CHANGED` (R19, R20). -/
def construct (m : Mode) (s : State) : State := { s with mode := m, changed := false }

/-- `VALID`: both accumulators, just computed over the frame, equal the stored checksums (R152). -/
def checksumsMatch (s : State) : Bool := s.c8 == s.hcrc && s.c16 == s.checksum

end Sys2Proof.Machine
end

