-- ==== Sys2Proof/Machine/Operands.lean ====
section
/-! DEFINITION. The operand forms of the command stream and their range checks (spec/30_encoding.md R72, R74): the mode
operand, the field selector and value of WRF, the field-set of NEW, the count limit of a payload. -/

namespace Sys2Proof.Machine

/-- The mode operand `m`: `0x00` auto, `0x01` frozen, anything else out of range (R72). -/
def modeOperand (m : Byte) : Option Mode :=
  match m.toNat with
  | 0 => some .auto
  | 1 => some .frozen
  | _ => none

/-- The seventeen field registers (R10), in the order of their selectors (R74). -/
inductive Field where
  | version
  | length
  | hcrc
  | srcRaw
  | dstRaw
  | srcType
  | srcIndex
  | dstType
  | dstIndex
  | seq
  | ctRaw
  | ctDir
  | ctAck
  | ctEnc
  | cmdset
  | cmd
  | checksum
  deriving DecidableEq, Repr

/-- The field selector `fsel` (R74); any other value is out of range. -/
def fieldOf (fsel : Byte) : Option Field :=
  match fsel.toNat with
  | 0x00 => some .version
  | 0x01 => some .length
  | 0x02 => some .hcrc
  | 0x03 => some .srcRaw
  | 0x04 => some .dstRaw
  | 0x05 => some .srcType
  | 0x06 => some .srcIndex
  | 0x07 => some .dstType
  | 0x08 => some .dstIndex
  | 0x09 => some .seq
  | 0x0A => some .ctRaw
  | 0x0B => some .ctDir
  | 0x0C => some .ctAck
  | 0x0D => some .ctEnc
  | 0x0E => some .cmdset
  | 0x0F => some .cmd
  | 0x10 => some .checksum
  | _ => none

/-- `width(fsel)`, the width of the selected register in bits (R74). -/
def fieldWidth : Field → Nat
  | .version => 6
  | .length => 10
  | .hcrc => 8
  | .srcRaw => 8
  | .dstRaw => 8
  | .srcType => 5
  | .srcIndex => 3
  | .dstType => 5
  | .dstIndex => 3
  | .seq => 16
  | .ctRaw => 8
  | .ctDir => 1
  | .ctAck => 2
  | .ctEnc => 4
  | .cmdset => 8
  | .cmd => 8
  | .checksum => 16

/-- The value of a field register, widened to 16 bits: what a host read of it returns (R24). -/
def getField (f : Field) (s : State) : Half :=
  match f with
  | .version => s.version.setWidth 16
  | .length => s.length.setWidth 16
  | .hcrc => s.hcrc.setWidth 16
  | .srcRaw => s.srcRaw.setWidth 16
  | .dstRaw => s.dstRaw.setWidth 16
  | .srcType => s.srcType.setWidth 16
  | .srcIndex => s.srcIndex.setWidth 16
  | .dstType => s.dstType.setWidth 16
  | .dstIndex => s.dstIndex.setWidth 16
  | .seq => s.seq
  | .ctRaw => s.ctRaw.setWidth 16
  | .ctDir => s.ctDir.setWidth 16
  | .ctAck => s.ctAck.setWidth 16
  | .ctEnc => s.ctEnc.setWidth 16
  | .cmdset => s.cmdset.setWidth 16
  | .cmd => s.cmd.setWidth 16
  | .checksum => s.checksum

/-- `REG(fsel) <- v[width(fsel)-1 : 0]` (R181). -/
def setField (f : Field) (v : Half) (s : State) : State :=
  match f with
  | .version => { s with version := v.extractLsb' 0 6 }
  | .length => { s with length := v.extractLsb' 0 10 }
  | .hcrc => { s with hcrc := v.extractLsb' 0 8 }
  | .srcRaw => { s with srcRaw := v.extractLsb' 0 8 }
  | .dstRaw => { s with dstRaw := v.extractLsb' 0 8 }
  | .srcType => { s with srcType := v.extractLsb' 0 5 }
  | .srcIndex => { s with srcIndex := v.extractLsb' 0 3 }
  | .dstType => { s with dstType := v.extractLsb' 0 5 }
  | .dstIndex => { s with dstIndex := v.extractLsb' 0 3 }
  | .seq => { s with seq := v }
  | .ctRaw => { s with ctRaw := v.extractLsb' 0 8 }
  | .ctDir => { s with ctDir := v.extractLsb' 0 1 }
  | .ctAck => { s with ctAck := v.extractLsb' 0 2 }
  | .ctEnc => { s with ctEnc := v.extractLsb' 0 4 }
  | .cmdset => { s with cmdset := v.extractLsb' 0 8 }
  | .cmd => { s with cmd := v.extractLsb' 0 8 }
  | .checksum => { s with checksum := v }

/-- The field a WRF writes, if the selector exists and the value is below `2^width` (R72, R181). -/
def fieldOperand (fsel : Byte) (v : Half) : Option Field :=
  match fieldOf fsel with
  | some f => if v.toNat < 2 ^ fieldWidth f then some f else none
  | none => none

/-- Whether a payload operand fits the payload store (R154, R182). -/
abbrev payloadFits (p : List Byte) : Prop := p.length ≤ maxPayload

/-- Whether every field operand of NEW is below two to the width of its register and the payload fits (R72, R154); the
mode operand is checked by `modeOperand`. -/
abbrev newFieldsInRange (a : NewArgs) : Prop :=
  a.version.toNat ≤ 63 ∧ a.srcType.toNat ≤ 31 ∧ a.srcIndex.toNat ≤ 7 ∧ a.dstType.toNat ≤ 31 ∧ a.dstIndex.toNat ≤ 7 ∧
    a.dir.toNat ≤ 1 ∧ a.ack.toNat ≤ 3 ∧ a.enc.toNat ≤ 15 ∧ payloadFits a.payload

end Sys2Proof.Machine
end

