-- ==== Sys2Proof/Machine/Packet.lean ====
section
/-! DEFINITION. Unit U4, the packet format decoder and serialiser (spec/44_packet.md): the internal procedure SERIALISE
and the operations DECODE, VALIDATE, ENCODE, NEW, over the frame layout of spec/30_encoding.md R60. -/

namespace Sys2Proof.Machine

/-! The version and length word, frame bytes 1 and 2 (R62). -/

/-- `w = (VERSION << 10) | LENGTH`. -/
def headerWord (version : BitVec 6) (length : BitVec 10) : Half := (version.setWidth 16 <<< 10) ||| length.setWidth 16

/-- `VERSION = w[15:10]`. -/
def wordVersion (w : Half) : BitVec 6 := w.extractLsb' 10 6

/-- `LENGTH = w[9:0]`. -/
def wordLength (w : Half) : BitVec 10 := w.extractLsb' 0 10

/-! SERIALISE. -/

/-- `N <- 13 + PAYLEN` (R151): 10 bits, and no overflow since PAYLEN is at most 1010. -/
def frameLength (s : State) : BitVec 10 := BitVec.ofNat 10 minFrame + s.payLen

/-- `f[0:3]`: the magic, then the version and length word, low byte first (R151). -/
def frameHead (s : State) : List Byte :=
  [magic, loByte (headerWord s.version (frameLength s)), hiByte (headerWord s.version (frameLength s))]

/-- The header checksum of the frame to be laid out: over bytes 0 to 2 and nothing else (R151, R238). -/
def frameHcrc (s : State) : Byte := checksum8 fiu (frameHead s)

/-- `f[0:N-2]`: everything before the whole-packet checksum, `p` being the payload; the sequence ID high byte first
(R151). -/
def frameBody (p : List Byte) (s : State) : List Byte :=
  frameHead s ++ [frameHcrc s, s.srcRaw, s.dstRaw, hiByte s.seq, loByte s.seq, s.ctRaw, s.cmdset, s.cmd] ++ p

/-- The whole-packet checksum of the frame to be laid out: over all that precedes it (R151, R238). -/
def frameChecksum (p : List Byte) (s : State) : Half := checksum16 fiu (frameBody p s)

/-- What SERIALISE writes, from the payload bytes `p` it read (R151). -/
def serialiseWith (p : List Byte) (s : State) : State :=
  writeRaw (frameBody p s ++ [loByte (frameChecksum p s), hiByte (frameChecksum p s)])
    { s with
      length := frameLength s, c8 := frameHcrc s, hcrc := frameHcrc s, c16 := frameChecksum p s,
      checksum := frameChecksum p s }

/-- `SERIALISE` (R151), which reads `PAY[i]` for `i` below `PAYLEN`. -/
def serialise (s : State) : Result :=
  match Memory.prefix? s.pay s.payLen.toNat with
  | some p => .next (serialiseWith p s)
  | none => .fault .noSuchByte

/-! DECODE. -/

/-- DECODE step 3: the length field of an operand of at least 13 bytes. -/
def declaredLength (data : List Byte) (h13 : 13 ≤ data.length) : BitVec 10 := wordLength (word16 data[1] data[2])

/-- DECODE step 3: the version field of an operand of at least 13 bytes. -/
def declaredVersion (data : List Byte) (h13 : 13 ≤ data.length) : BitVec 6 := wordVersion (word16 data[1] data[2])

/-- DECODE step 6: the registers and stores filled from the operand, whose first `len` bytes are the frame (R150). -/
def loadFrame (m : Mode) (data : List Byte) (ver : BitVec 6) (len : BitVec 10) (hmin : 13 ≤ len.toNat)
    (hbuf : len.toNat ≤ data.length) (s : State) : State :=
  construct m <| writeRaw (data.take len.toNat) <| writePay ((data.take (len.toNat - 2)).drop payloadOffset) <|
    unpackSrc data[4] <| unpackDst data[5] <| unpackCt data[8]
    { s with
      version := ver, length := len, hcrc := data[3], srcRaw := data[4], dstRaw := data[5],
      seq := word16 data[7] data[6], ctRaw := data[8], cmdset := data[9], cmd := data[10],
      checksum := word16 data[len.toNat - 2] data[len.toNat - 1] }

/-- DECODE steps 2 to 6, on an operand of at least 13 bytes (R150). -/
def decodeFramed (m : Mode) (data : List Byte) (h13 : 13 ≤ data.length) (s : State) : Result :=
  if data[0] ≠ magic then endWith .badMagic s
  else if hbuf : (declaredLength data h13).toNat ≤ data.length then
    if hmin : minFrame ≤ (declaredLength data h13).toNat then
      finish (loadFrame m data (declaredVersion data h13) (declaredLength data h13) hmin hbuf s)
    else endWith .lengthBelowMinimum s
  else endWith .lengthExceedsBuffer s

/-- `DECODE m, in` (R150): steps 0 to 5 in order, the first that fails decides. -/
def execDecode (m : Byte) (data : List Byte) (s : State) : Result :=
  match modeOperand m with
  | none => endWith .badOperand s
  | some mode => if h : minFrame ≤ data.length then decodeFramed mode data h s else endWith .tooSmall s

/-! VALIDATE. -/

/-- `C8` and `C16` recomputed over the frame bytes `head` = `RAW[0:3]` and `body` = `RAW[0:RAWLEN-2]` (R152). -/
def recompute (head body : List Byte) (s : State) : State :=
  { s with c8 := checksum8 fiu head, c16 := checksum16 fiu body }

/-- `VALID` from the accumulators just computed (R152). -/
def judge (s : State) : State := { s with valid := checksumsMatch s }

/-- `VALIDATE` (R152). -/
def execValidate (s : State) : Result :=
  needPacket s <|
    match Memory.prefix? s.raw 3, Memory.prefix? s.raw (s.rawLen.toNat - 2) with
    | some head, some body => finish (judge (recompute head body s))
    | _, _ => .fault .noSuchByte

/-! ENCODE. -/

/-- `ENCODE` (R153). -/
def execEncode (s : State) : Result :=
  needPacket s <|
    match s.mode with
    | .frozen => endWith .refused s
    | .auto => thenFinish (serialise s)

/-! NEW. -/

/-- The independent fields of NEW, the three bytes packed from them, and the payload (R154). -/
def loadFields (a : NewArgs) (s : State) : State :=
  writePay a.payload <| packSrc <| packDst <| packCt
    { s with
      version := a.version.setWidth 6, srcType := a.srcType.setWidth 5, srcIndex := a.srcIndex.setWidth 3,
      dstType := a.dstType.setWidth 5, dstIndex := a.dstIndex.setWidth 3, seq := a.seq, ctDir := a.dir.setWidth 1,
      ctAck := a.ack.setWidth 2, ctEnc := a.enc.setWidth 4, cmdset := a.cmdset, cmd := a.cmd }

/-- `NEW m, version, …, payload` (R154): the range checks, then the mode check, then the construction. The packet is
made in auto mode before SERIALISE or after it alike: SERIALISE reads neither `MODE` nor `CHANGED`. -/
def execNew (a : NewArgs) (s : State) : Result :=
  match modeOperand a.m with
  | none => endWith .badOperand s
  | some mode =>
    if newFieldsInRange a then
      match mode with
      | .frozen => endWith .refused s
      | .auto => thenFinish (serialise (construct .auto (loadFields a s)))
    else endWith .badOperand s

end Sys2Proof.Machine
end

