-- ==== Sys2Proof/Machine/Recalc.lean ====
section
/-! DEFINITION. Unit U5, the recalculation sequencer (spec/45_recalc.md): the internal procedure RECALC and the
operations WRF, WRPAY, WRRAW. -/

namespace Sys2Proof.Machine

/-- `RECALC` (R180): the three packed bytes rebuilt from their sub-fields, then SERIALISE. -/
def recalc (s : State) : Result := serialise (packCt (packDst (packSrc s)))

/-- The end of a field write, after the register or store has been written: `CHANGED <- 1`, then RECALC in auto mode
and nothing more in frozen mode (R181, R182). -/
def endWrite (s : State) : Result :=
  match s.mode with
  | .auto => thenFinish (recalc (markChanged s))
  | .frozen => finish (markChanged s)

/-- `WRF fsel, v` (R181). -/
def execWrf (fsel : Byte) (v : Half) (s : State) : Result :=
  match fieldOperand fsel v with
  | none => endWith .badOperand s
  | some f => needPacket s (endWrite (setField f v s))

/-- `WRPAY in` (R182). -/
def execWrpay (data : List Byte) (s : State) : Result :=
  if payloadFits data then needPacket s (endWrite (writePay data s)) else endWith .badOperand s

/-- `WRRAW in` (R183): always `ImmutableRawBuffer`, whatever the operand, the mode and the presence of a packet. -/
def execWrraw (_data : List Byte) (s : State) : Result := endWith .immutableRawBuffer s

end Sys2Proof.Machine
end

