-- ==== Sys2Proof/Machine/Dispatch.lean ====
section
/-! DEFINITION. Which meaning each operation has. -/

namespace Sys2Proof.Machine

def exec (i : Instr) (s : State) : Host.Outcome State Fault Refusal :=
  match i with
  | .c16init => Sys2Proof.Machine.execC16init s
  | .c16upd b => Sys2Proof.Machine.execC16upd b s
  | .c16blk data => Sys2Proof.Machine.execC16blk data s
  | .c8init => Sys2Proof.Machine.execC8init s
  | .c8upd b => Sys2Proof.Machine.execC8upd b s
  | .c8blk data => Sys2Proof.Machine.execC8blk data s
  | .pksrc => Sys2Proof.Machine.execPksrc s
  | .upksrc => Sys2Proof.Machine.execUpksrc s
  | .pkdst => Sys2Proof.Machine.execPkdst s
  | .upkdst => Sys2Proof.Machine.execUpkdst s
  | .pkct => Sys2Proof.Machine.execPkct s
  | .upkct => Sys2Proof.Machine.execUpkct s
  | .decode m data => Sys2Proof.Machine.execDecode m data s
  | .validate => Sys2Proof.Machine.execValidate s
  | .encode => Sys2Proof.Machine.execEncode s
  | .new a => Sys2Proof.Machine.execNew a s
  | .wrf fsel v => Sys2Proof.Machine.execWrf fsel v s
  | .wrpay data => Sys2Proof.Machine.execWrpay data s
  | .wrraw data => Sys2Proof.Machine.execWrraw data s

end Sys2Proof.Machine
end

