-- ==== Sys2Proof/Machine/Step.lean ====
section
/-! DEFINITION. One step of the block: one operation the host has issued (spec/10_state.md R23, spec/20_memory.md R44,
R47, spec/70_reset_and_hazards.md R243). -/

namespace Sys2Proof.Machine

/-- One step. While the reset input is asserted no operation is accepted (R230). Otherwise a whole command on the port
is consumed and performed; a byte that is no operation code is consumed and ends with `IllegalOp` (R75); and while the
command is not whole, or no byte has come, the block waits (R71): a step to the same state,
DESIGN CHOICE, safe (assumption log 3). -/
def step (s : State) : Host.Outcome State Fault Refusal :=
  if s.rst then .next heldInReset
  else
    match decode s.port with
    | .instr i rest => exec i (consume rest s)
    | .illegalOp _ rest => endWith .illegalOp (consume rest s)
    | .incomplete => .next s

/-- `s` with the command whose first `nbits` bits are `w`, and whose further bytes are zero, presented on the command
port, and the reset input released: the next step performs exactly it. -/
def State.withFetchWord (s : State) (nbits w : Nat) : State :=
  { s with port := tableWordBytes nbits w, rst := false }

end Sys2Proof.Machine
end

