-- ==== Sys2Proof/Machine/HostSide.lean ====
section
/-! DEFINITION. What the host does: it presents command bytes and drives the reset input, and it performs the two
pseudo-operations DECODEHEX and TOHEX outside the block (spec/30_encoding.md R78, R79). Reading a register or a store
(R24) is reading a field of the state. -/

namespace Sys2Proof.Machine

/-- The host presents bytes on the command port, after those already there (R71). -/
def hostSend (bytes : List Byte) (s : State) : State := { s with port := s.port ++ bytes }

/-- The host asserts the reset input: whatever the block was doing is abandoned (R230). That the registers take their
reset values at once, and that the bytes on the port are dropped, is the model's choice: DESIGN CHOICE, unsafe
(assumption log 4). -/
def hostAssertReset (_ : State) : State := heldInReset

/-- The host releases the reset input: if it was asserted, the state is that of R27 (R230). That the bytes the host has
presented while it was asserted are dropped with it, whether or not a step came between, is the model's choice: DESIGN
CHOICE, unsafe (assumption log 4). Releasing an input that is not asserted changes nothing. -/
def hostReleaseReset (s : State) : State := if s.rst then State.reset else s

/-- `val`: the value of a hex digit, nothing for any other character (R78). -/
def hexVal (c : Char) : Option Nat :=
  if '0' ≤ c ∧ c ≤ '9' then some (c.toNat - '0'.toNat)
  else if 'a' ≤ c ∧ c ≤ 'f' then some (c.toNat - 'a'.toNat + 10)
  else if 'A' ≤ c ∧ c ≤ 'F' then some (c.toNat - 'A'.toNat + 10)
  else none

/-- The byte of two hex digits, high nibble first (R78). -/
def hexByte (hi lo : Char) : Option Byte :=
  match hexVal hi, hexVal lo with
  | some x, some y => some (BitVec.ofNat 8 (16 * x + y))
  | _, _ => none

/-- The bytes a hex string stands for, nothing if it is malformed: of odd length, or with a character that is no hex
digit (R78). -/
def hexBytes : List Char → Option (List Byte)
  | [] => some []
  | [_] => none
  | hi :: lo :: rest =>
    match hexByte hi lo, hexBytes rest with
    | some b, some bs => some (b :: bs)
    | _, _ => none

/-- `DECODEHEX m, "str"` (R78): the operation the host issues, or `MalformedHex` and no operation issued (R212). The
string is the list of its characters. -/
def decodeHex (m : Byte) (str : List Char) : Except Err Instr :=
  match hexBytes str with
  | some bs => .ok (.decode m bs)
  | none => .error .malformedHex

/-- The hex digit of a value below 16. -/
def hexDigit (letters : HexCase) (n : Nat) : Char :=
  if n < 10 then Char.ofNat ('0'.toNat + n)
  else
    match letters with
    | .lower => Char.ofNat ('a'.toNat + (n - 10))
    | .upper => Char.ofNat ('A'.toNat + (n - 10))

/-- Each byte as two hex digits, high nibble first, byte 0 first, no separators (R79). -/
def hexString (letters : HexCase) (bytes : List Byte) : List Char :=
  bytes.flatMap (fun b => [hexDigit letters (b.toNat / 16), hexDigit letters (b.toNat % 16)])

/-- `TOHEX` (R79): `RAW` as it stands, in the letter case the spec leaves open. -/
def toHex (s : State) : List Char := hexString Config.hexCase s.raw

end Sys2Proof.Machine
end

