-- ==== Sys2Proof/Safety.lean ====
section
/-! DEFINITION. The terms in which claims about the block are stated: what an operation leaves as it was, the frame layout
of spec/30_encoding.md R60 read off a state, the invariants of spec/10_state.md R25, the tables of
spec/60_exceptions.md R201 and spec/10_state.md R26, and the invariant every step keeps. -/

namespace Sys2Proof.Machine

/-! Sequences of operations. -/

/-- The operations the host issues one after another (R47), stopping where one does not answer a next state. -/
def execAll : List Instr → State → Result
  | [], s => .next s
  | i :: is, s =>
    match exec i s with
    | .next t => execAll is t
    | .fault r => .fault r
    | .refused r => .refused r

/-! What is left as it was. A store is compared byte by byte, through the read of one byte. -/

/-- Every field register but those listed is unchanged. -/
def keepsFields (except : List Field) (s t : State) : Prop := ∀ f, f ∉ except → getField f t = getField f s

/-- The payload store is unchanged. -/
def keepsPay (s t : State) : Prop :=
  (∀ i, Memory.read t.pay i = Memory.read s.pay i) ∧ t.payLen = s.payLen

/-- The frame store is unchanged. -/
def keepsRaw (s t : State) : Prop :=
  (∀ i, Memory.read t.raw i = Memory.read s.raw i) ∧ t.rawLen = s.rawLen

/-- `C16` and `C8` are unchanged. -/
def keepsAccumulators (s t : State) : Prop := t.c16 = s.c16 ∧ t.c8 = s.c8

/-- `MODE`, `CHANGED` and `VALID` are unchanged. -/
def keepsStatus (s t : State) : Prop := t.mode = s.mode ∧ t.changed = s.changed ∧ t.valid = s.valid

/-- The bytes on the command port and the reset input are unchanged. -/
def keepsInputs (s t : State) : Prop := t.port = s.port ∧ t.rst = s.rst

/-- The operation ended OK and wrote no field register but those listed, and no other state but `ERR`. -/
def writesOnlyFields (fs : List Field) (s t : State) : Prop :=
  t.err = .ok ∧ keepsFields fs s t ∧ keepsPay s t ∧ keepsRaw s t ∧ keepsAccumulators s t ∧ keepsStatus s t ∧
    keepsInputs s t

/-- Two states hold the same packet: the seventeen field registers, both stores with their lengths, `MODE` and
`CHANGED` (R155). -/
def samePacket (s t : State) : Prop :=
  keepsFields [] s t ∧ t.pay = s.pay ∧ t.payLen = s.payLen ∧ t.raw = s.raw ∧ t.rawLen = s.rawLen ∧ t.mode = s.mode ∧
    t.changed = s.changed

/-! The frame, read off a state. -/

/-- `RAW` is the frame of the field registers and `PAY`, byte by byte as the layout table of R60 has them, every byte as
a number: N = 13 + PAYLEN bytes, the length word and the checksum low byte first, the sequence ID high byte first. -/
def frameLaidOut (s : State) : Prop :=
  s.rawLen.toNat = 13 + s.pay.length ∧ s.length.toNat = 13 + s.pay.length ∧
    s.raw.map BitVec.toNat =
      [0x55, (13 + s.pay.length) % 256, 4 * s.version.toNat + (13 + s.pay.length) / 256, s.hcrc.toNat,
        s.srcRaw.toNat, s.dstRaw.toNat, s.seq.toNat / 256, s.seq.toNat % 256, s.ctRaw.toNat, s.cmdset.toNat,
        s.cmd.toNat] ++ s.pay.map BitVec.toNat ++ [s.checksum.toNat % 256, s.checksum.toNat / 256]

/-- Invariant 1 of R25: `LENGTH == RAWLEN` and `LENGTH == 13 + PAYLEN`. -/
def lengthsAgree (s : State) : Prop := s.length = s.rawLen ∧ s.length.toNat = 13 + s.payLen.toNat

/-- Invariant 2 of R25: both address bytes are packed from their sub-fields. -/
def addressesPacked (s : State) : Prop :=
  s.srcRaw.toNat = s.srcType.toNat + 32 * s.srcIndex.toNat ∧ s.dstRaw.toNat = s.dstType.toNat + 32 * s.dstIndex.toNat

/-- Invariant 3 of R25: the command-type byte is packed from its sub-fields. -/
def commandTypePacked (s : State) : Prop :=
  s.ctRaw.toNat = 128 * s.ctDir.toNat + 32 * s.ctAck.toNat + s.ctEnc.toNat

/-- Invariant 3 of R25 but for bit 4, which unpacking ignores (R66). -/
def commandTypeAgrees (s : State) : Prop :=
  (s.ctRaw &&& 0xEF).toNat = 128 * s.ctDir.toNat + 32 * s.ctAck.toNat + s.ctEnc.toNat

/-- Invariant 4 of R25: `HCRC == Checksum8(RAW[0:3])`. -/
def headerChecksumRight (s : State) : Prop := s.hcrc = checksum8 fiu (s.raw.take 3)

/-- Invariant 5 of R25: `CHECKSUM == Checksum16(RAW[0:RAWLEN-2])`. -/
def packetChecksumRight (s : State) : Prop := s.checksum = checksum16 fiu (s.raw.take (s.rawLen.toNat - 2))

/-- Invariant 6 of R25: `RAW[0] == 0x55`. -/
def magicInPlace (s : State) : Prop := Memory.read s.raw 0 = some 0x55

/-- All six invariants of R25. -/
def consistent (s : State) : Prop :=
  lengthsAgree s ∧ addressesPacked s ∧ commandTypePacked s ∧ headerChecksumRight s ∧ packetChecksumRight s ∧
    magicInPlace s

/-! Kinds of operations. -/

/-- The field registers that RECALC derives (R181). -/
def derivedFields : List Field := [.srcRaw, .dstRaw, .ctRaw, .length, .hcrc, .checksum]

/-- DECODE and NEW, which construct a packet (R26). -/
def constructs : Instr → Bool
  | .decode _ _ => true
  | .new _ => true
  | _ => false

/-- WRF and WRPAY, which write a field (R20). -/
def writesField : Instr → Bool
  | .wrf _ _ => true
  | .wrpay _ => true
  | _ => false

/-- The operations that need a packet (R26). -/
def needsPacket : Instr → Bool
  | .validate => true
  | .encode => true
  | .wrf _ _ => true
  | .wrpay _ => true
  | .pksrc => true
  | .upksrc => true
  | .pkdst => true
  | .upkdst => true
  | .pkct => true
  | .upkct => true
  | _ => false

/-- Whether the operands of a WRF or WRPAY are in range (R72, R74, R182); nothing is asked of another operation. -/
def fieldOperandsInRange : Instr → Prop
  | .wrf fsel v => ∃ f, fieldOf fsel = some f ∧ v.toNat < 2 ^ fieldWidth f
  | .wrpay data => data.length ≤ 1010
  | _ => True

/-- Every error an operation can end with, the first checked first (R201). -/
def errorsOf : Instr → List Err
  | .c16init => []
  | .c16upd _ => []
  | .c16blk _ => []
  | .c8init => []
  | .c8upd _ => []
  | .c8blk _ => []
  | .pksrc => [.noPacket]
  | .upksrc => [.noPacket]
  | .pkdst => [.noPacket]
  | .upkdst => [.noPacket]
  | .pkct => [.noPacket]
  | .upkct => [.noPacket]
  | .decode _ _ => [.badOperand, .tooSmall, .badMagic, .lengthExceedsBuffer, .lengthBelowMinimum]
  | .validate => [.noPacket]
  | .encode => [.noPacket, .refused]
  | .new _ => [.badOperand, .refused]
  | .wrf _ _ => [.badOperand, .noPacket]
  | .wrpay _ => [.badOperand, .noPacket]
  | .wrraw _ => [.immutableRawBuffer]

/-! The invariant every step keeps. -/

/-- What holds of the packet registers while no packet is present: the reset zeros (R26, R27, and
spec/93_implementation_defined.md U17). -/
def blank (s : State) : Prop :=
  (∀ f, getField f s = 0) ∧ s.pay = [] ∧ s.mode = .auto ∧ s.changed = false ∧ s.valid = false

/-- The states the block can be in: the stores have their form; `ERR` is never `MalformedHex` (R212); with no packet
present the packet registers are blank; with one present the frame begins with the magic byte; and while a packet in
auto mode is present its lengths agree, its address bytes are packed, and so is its command-type byte but for bit 4
(R25, R66). -/
def Inv (s : State) : Prop :=
  Memory.wf s ∧ s.err ≠ .malformedHex ∧ (s.rawLen = 0 → blank s) ∧
    (s.rawLen ≠ 0 → magicInPlace s) ∧
    (s.rawLen ≠ 0 → s.mode = .auto → lengthsAgree s ∧ addressesPacked s ∧ commandTypeAgrees s)

/-- A step that answers a next state: neither a fault nor a refusal. -/
def goesOn (r : Result) : Prop := ∃ t, r = .next t

end Sys2Proof.Machine
end

