-- ==== Sys2Proof/Certificates/Slice0/Obligations.lean ====
section
/-! DEFINITION. The statements for the provers. -/

open Sys2Proof Sys2Proof.Machine

/-! ### The command stream -/

/-- R71 to R73: every operation a command can spell is what its command decodes to, and the bytes after it are left. -/
def Obligations.DecodeOfEncodeGivesOperation : Prop :=
  ∀ (i : Instr) (rest : List Byte), i.wellFormed → decode (encode i ++ rest) = .instr i rest

/-- R71: decoding consumes exactly the bytes of one command. -/
def Obligations.DecodeConsumesExactlyOneCommand : Prop :=
  ∀ (bytes rest : List Byte) (i : Instr), decode bytes = .instr i rest → i.wellFormed ∧ bytes = encode i ++ rest

/-- R71 to R74: commands written out from the spec (95_test_vectors.md), one of each format, decode to what they stand
for. -/
def Obligations.SpecCommandsDecode : Prop :=
  decode [0x10, 0x11] = .instr .c16init [0x11] ∧
  decode [0x19, 0x0E] = .instr (.c8upd 0x0E) [] ∧
  decode [0x1A, 0x03, 0x00, 0x55, 0x0E, 0x04] = .instr (.c8blk [0x55, 0x0E, 0x04]) [] ∧
  decode [0x23] = .instr .upkdst [] ∧
  decode [0x40, 0x01, 0x03, 0x00, 0x55, 0x0E, 0x04, 0x41] = .instr (.decode 1 [0x55, 0x0E, 0x04]) [0x41] ∧
  decode [0x43, 0x00, 0x01, 0x0A, 0x01, 0x08, 0x01, 0x2F, 0xDE, 0x00, 0x02, 0x00, 0x00, 0x5B, 0x01, 0x00, 0x01] =
    .instr (.new
      { m := 0, version := 1, srcType := 10, srcIndex := 1, dstType := 8, dstIndex := 1, seq := 0xDE2F, dir := 0,
        ack := 2, enc := 0, cmdset := 0, cmd := 0x5B, payload := [0x01] }) [] ∧
  decode [0x50, 0x01, 0xFF, 0x03] = .instr (.wrf 0x01 0x3FF) [] ∧
  decode [0x5F, 0x00, 0x00] = .instr (.wrraw []) [] ∧
  decode [0x50, 0x01, 0xFF] = .incomplete ∧
  decode [0x13, 0x10] = .illegalOp 0x13 [0x10]

/-- R73, R75: a byte that is none of the nineteen operation codes is consumed alone, changes nothing but `ERR`, and ends
with `IllegalOp`, code 8; there are 237 such bytes. -/
def Obligations.IllegalCodeIsConsumedAlone : Prop :=
  let codes : List Nat := [0x10, 0x11, 0x12, 0x18, 0x19, 0x1A, 0x20, 0x21, 0x22, 0x23, 0x24, 0x25, 0x40, 0x41, 0x42,
    0x43, 0x50, 0x51, 0x5F]
  (∀ (s : State) (op : Byte) (rest : List Byte), s.rst = false → s.port = op :: rest → op.toNat ∉ codes →
    step s = .next { s with port := rest, err := .illegalOp }) ∧
  Err.code .illegalOp = 8 ∧ ((List.range 256).filter (· ∉ codes)).length = 237

/-- R71: while the bytes of a command have not all come the block waits; when the host has sent the rest, with or without
further bytes after it, the operation is performed. That waiting is a step to the very same state is the model's choice
(DESIGN CHOICE, assumption log 3). -/
def Obligations.UnfinishedCommandWaits : Prop :=
  ∀ (s : State) (i : Instr) (n : Nat) (more : List Byte), s.rst = false → i.wellFormed → n < (encode i).length →
    s.port = (encode i).take n →
    step s = .next s ∧ step (hostSend ((encode i).drop n ++ more) s) = exec i { s with port := more }

/-- R23, R44: a step performs the operation the decoder reads from the port, on the state from whose port the bytes of
that command are gone; so it does for a whole command placed on the port. -/
def Obligations.StepPerformsDecodedOperation : Prop :=
  ∀ (s : State) (i : Instr) (rest : List Byte), s.rst = false →
    (decode s.port = .instr i rest → step s = exec i { s with port := rest }) ∧
    (i.wellFormed → s.port = encode i ++ rest → step s = exec i { s with port := rest })

/-- R44, R47: no operation reads or writes the bytes that follow its own command, and none touches the reset input. -/
def Obligations.OperationsLeaveInputsAlone : Prop :=
  ∀ (i : Instr) (s t : State), exec i s = .next t →
    keepsInputs s t ∧ ∀ (port : List Byte) (rst : Bool),
      exec i { s with port := port, rst := rst } = .next { t with port := port, rst := rst }

/-! ### Reset -/

/-- R27: the value of every piece of state after reset. -/
def Obligations.ResetValues : Prop :=
  (∀ f : Field, getField f State.reset = 0) ∧
  State.reset.pay = [] ∧ State.reset.payLen = 0 ∧ State.reset.raw = [] ∧ State.reset.rawLen = 0 ∧
  State.reset.c16 = 0x3692 ∧ State.reset.c8 = 0x77 ∧ Mode.code State.reset.mode = 0 ∧
  State.reset.changed = false ∧ State.reset.valid = false ∧ Err.code State.reset.err = 0

/-- R230: while the reset input is asserted no operation is accepted, and when it is released, from any state whatever, the
state is the reset state. The model's choices (DESIGN CHOICE, assumption log 4), not the rule's: that the registers
have their reset values while the input is asserted, and that bytes on the port then, or presented before the release,
are lost. -/
def Obligations.ResetInputHoldsTheBlock : Prop :=
  ∀ s : State,
    (s.rst = true → step s = .next { State.reset with rst := true } ∧ hostReleaseReset s = State.reset) ∧
    step (hostAssertReset s) = .next (hostAssertReset s) ∧ hostReleaseReset (hostAssertReset s) = State.reset ∧
    ∀ bytes : List Byte, hostReleaseReset (hostSend bytes (hostAssertReset s)) = State.reset

/-! ### Units U1 and U2 -/

/-- R91: the bit-serial form of the CRC-16 step gives what the defining form gives, for every polynomial. -/
def Obligations.Crc16SerialFormAgrees : Prop :=
  ∀ (k : Config) (c : Half) (b : Byte), crc16Serial k c b = crc16Step k c b

/-- R111: the bit-serial form of the CRC-8 step gives what the defining form gives, for every polynomial. -/
def Obligations.Crc8SerialFormAgrees : Prop :=
  ∀ (k : Config) (c b : Byte), crc8Serial k c b = crc8Step k c b

/-- R93: the table printed in the spec is the step applied to 0, and the table-driven form is the step. -/
def Obligations.Crc16TableFormAgrees : Prop :=
  t16.length = 256 ∧ (∀ i : Byte, t16[i.toNat]? = some (crc16Step fiu 0 i)) ∧
    ∀ (c : Half) (b : Byte), crc16Lookup c b = some (crc16Step fiu c b)

/-- R113: the table printed in the spec is the step applied to 0, and the table-driven form is the step. -/
def Obligations.Crc8TableFormAgrees : Prop :=
  t8.length = 256 ∧ (∀ i : Byte, t8[i.toNat]? = some (crc8Step fiu 0 i)) ∧
    ∀ c b : Byte, crc8Lookup c b = some (crc8Step fiu c b)

/-- R97 item 3: a sequence followed by its own checksum, low byte first, has checksum 0. -/
def Obligations.Crc16ResidueIsZero : Prop :=
  ∀ data : List Byte,
    checksum16 fiu (data ++ [loByte (checksum16 fiu data), hiByte (checksum16 fiu data)]) = 0

/-- R117 item 2: a sequence followed by its own header checksum has header checksum 0. -/
def Obligations.Crc8ResidueIsZero : Prop :=
  ∀ data : List Byte, checksum8 fiu (data ++ [checksum8 fiu data]) = 0

/-- R97 item 4: for a fixed byte the CRC-16 step is a bijection of the register, and two start values never give the same
result on the same input. -/
def Obligations.Crc16StepIsBijective : Prop :=
  (∀ b : Byte, Function.Bijective (fun c => crc16Step fiu c b)) ∧
    ∀ (data : List Byte) (c d : Half), data.foldl (crc16Step fiu) c = data.foldl (crc16Step fiu) d → c = d

/-- R63, R69, R97, R117, 95_test_vectors.md S1, K7, H7: the checksums of the one source vector, and the catalogue check
values of the seed-0 forms. -/
def Obligations.SourceVectorChecksums : Prop :=
  checksum8 fiu [0x55, 0x0E, 0x04] = 0x66 ∧
  checksum16 fiu [0x55, 0x0E, 0x04, 0x66, 0x2A, 0x28, 0xDE, 0x2F, 0x40, 0x00, 0x5B, 0x01] = 0x3AA5 ∧
  checksum16 { fiu with seed16 := 0 } [0x31, 0x32, 0x33, 0x34, 0x35, 0x36, 0x37, 0x38, 0x39] = 0x2189 ∧
  checksum8 { fiu with seed8 := 0 } [0x31, 0x32, 0x33, 0x34, 0x35, 0x36, 0x37, 0x38, 0x39] = 0xA1

/-- R94 to R96: each C16 operation completes in every state, writes `C16` as the spec says (the step in its table-driven
form, the block checksum in its bit-serial form from the seed), and writes nothing else but `ERR`. -/
def Obligations.C16OperationsWriteOnlyC16 : Prop :=
  ∀ (s : State) (b : Byte) (data : List Byte),
    (∃ t, exec .c16init s = .next t ∧ t.c16 = 0x3692 ∧ t.c8 = s.c8 ∧ writesOnlyFields [] { s with c16 := t.c16 } t) ∧
    (∃ t, exec (.c16upd b) s = .next t ∧ crc16Lookup s.c16 b = some t.c16 ∧ t.c8 = s.c8 ∧
      writesOnlyFields [] { s with c16 := t.c16 } t) ∧
    (∃ t, exec (.c16blk data) s = .next t ∧ t.c16 = data.foldl (crc16Serial fiu) 0x3692 ∧ t.c8 = s.c8 ∧
      writesOnlyFields [] { s with c16 := t.c16 } t)

/-- R114 to R116: each C8 operation completes in every state, writes `C8` as the spec says (the step in its table-driven
form, the block checksum in its bit-serial form from the seed), and writes nothing else but `ERR`. -/
def Obligations.C8OperationsWriteOnlyC8 : Prop :=
  ∀ (s : State) (b : Byte) (data : List Byte),
    (∃ t, exec .c8init s = .next t ∧ t.c8 = 0x77 ∧ t.c16 = s.c16 ∧ writesOnlyFields [] { s with c8 := t.c8 } t) ∧
    (∃ t, exec (.c8upd b) s = .next t ∧ crc8Lookup s.c8 b = some t.c8 ∧ t.c16 = s.c16 ∧
      writesOnlyFields [] { s with c8 := t.c8 } t) ∧
    (∃ t, exec (.c8blk data) s = .next t ∧ t.c8 = data.foldl (crc8Serial fiu) 0x77 ∧ t.c16 = s.c16 ∧
      writesOnlyFields [] { s with c8 := t.c8 } t)

/-- R96, R97 item 2: feeding bytes one by one after C16INIT, or on after a C16BLK, leaves the block in the very state
that one C16BLK of all the bytes leaves. -/
def Obligations.C16StreamEqualsBlock : Prop :=
  ∀ (s : State) (xs ys : List Byte),
    execAll (.c16init :: ys.map .c16upd) s = exec (.c16blk ys) s ∧
    execAll (.c16blk xs :: ys.map .c16upd) s = exec (.c16blk (xs ++ ys)) s

/-- R116, R117 item 1: feeding bytes one by one after C8INIT, or on after a C8BLK, leaves the block in the very state
that one C8BLK of all the bytes leaves. -/
def Obligations.C8StreamEqualsBlock : Prop :=
  ∀ (s : State) (xs ys : List Byte),
    execAll (.c8init :: ys.map .c8upd) s = exec (.c8blk ys) s ∧
    execAll (.c8blk xs :: ys.map .c8upd) s = exec (.c8blk (xs ++ ys)) s

/-! ### Unit U3 -/

/-- R134: both packings are undone by their unpackings; address packing is a bijection onto all bytes, command-type
packing a bijection onto the bytes with bit 4 clear, and repacking an unpacked command-type byte clears bit 4. -/
def Obligations.PackingsAreInverse : Prop :=
  (∀ (ty : BitVec 5) (ix : BitVec 3), unpackAddress (packAddress ty ix) = (ty, ix)) ∧
  (∀ (d : BitVec 1) (a : BitVec 2) (e : BitVec 4), unpackCommandType (packCommandType d a e) = (d, a, e)) ∧
  (∀ b : Byte, packAddress (unpackAddress b).1 (unpackAddress b).2 = b) ∧
  (∀ b : Byte, packCommandType (unpackCommandType b).1 (unpackCommandType b).2.1 (unpackCommandType b).2.2 = b &&& 0xEF) ∧
  (∀ b : Byte, (b &&& 0xEF = b ↔ b.getLsbD 4 = false)) ∧
  Function.Bijective (fun p : BitVec 5 × BitVec 3 => packAddress p.1 p.2) ∧
  Function.Injective (fun p : BitVec 1 × BitVec 2 × BitVec 4 => packCommandType p.1 p.2.1 p.2.2) ∧
  ∀ b : Byte, (b.getLsbD 4 = false ↔ ∃ (d : BitVec 1) (a : BitVec 2) (e : BitVec 4), packCommandType d a e = b)

/-- R135, R136: PKSRC and UPKSRC, their encodings, what they write with a packet present, in either mode, and
`NoPacket`, code 7, without one. -/
def Obligations.SourceAddressOperations : Prop :=
  Err.code .noPacket = 7 ∧ encode .pksrc = [0x20] ∧ encode .upksrc = [0x21] ∧
  ∀ s : State,
    (s.rawLen = 0 → exec .pksrc s = .next { s with err := .noPacket } ∧
      exec .upksrc s = .next { s with err := .noPacket }) ∧
    (s.rawLen ≠ 0 →
      (∃ t, exec .pksrc s = .next t ∧ t.srcRaw.toNat = s.srcType.toNat + 32 * s.srcIndex.toNat ∧
        writesOnlyFields [.srcRaw] s t) ∧
      (∃ t, exec .upksrc s = .next t ∧ t.srcType.toNat = s.srcRaw.toNat % 32 ∧
        t.srcIndex.toNat = s.srcRaw.toNat / 32 ∧ writesOnlyFields [.srcType, .srcIndex] s t))

/-- R137, R138: PKDST and UPKDST, as the source pair. -/
def Obligations.DestinationAddressOperations : Prop :=
  Err.code .noPacket = 7 ∧ encode .pkdst = [0x22] ∧ encode .upkdst = [0x23] ∧
  ∀ s : State,
    (s.rawLen = 0 → exec .pkdst s = .next { s with err := .noPacket } ∧
      exec .upkdst s = .next { s with err := .noPacket }) ∧
    (s.rawLen ≠ 0 →
      (∃ t, exec .pkdst s = .next t ∧ t.dstRaw.toNat = s.dstType.toNat + 32 * s.dstIndex.toNat ∧
        writesOnlyFields [.dstRaw] s t) ∧
      (∃ t, exec .upkdst s = .next t ∧ t.dstType.toNat = s.dstRaw.toNat % 32 ∧
        t.dstIndex.toNat = s.dstRaw.toNat / 32 ∧ writesOnlyFields [.dstType, .dstIndex] s t))

/-- R139, R140: PKCT and UPKCT; the packed byte has bit 4 clear, and bit 4 of the byte unpacked is read by nothing. -/
def Obligations.CommandTypeOperations : Prop :=
  Err.code .noPacket = 7 ∧ encode .pkct = [0x24] ∧ encode .upkct = [0x25] ∧
  ∀ s : State,
    (s.rawLen = 0 → exec .pkct s = .next { s with err := .noPacket } ∧
      exec .upkct s = .next { s with err := .noPacket }) ∧
    (s.rawLen ≠ 0 →
      (∃ t, exec .pkct s = .next t ∧
        t.ctRaw.toNat = 128 * s.ctDir.toNat + 32 * s.ctAck.toNat + s.ctEnc.toNat ∧ t.ctRaw.getLsbD 4 = false ∧
        writesOnlyFields [.ctRaw] s t) ∧
      (∃ t, exec .upkct s = .next t ∧ t.ctDir.toNat = s.ctRaw.toNat / 128 ∧
        t.ctAck.toNat = s.ctRaw.toNat / 32 % 4 ∧ t.ctEnc.toNat = s.ctRaw.toNat % 16 ∧
        writesOnlyFields [.ctDir, .ctAck, .ctEnc] s t))

/-! ### Unit U4: DECODE -/

/-- R150 steps 0 to 5, R203: every check of DECODE in its order, with the declared length written out as a number from
frame bytes 1 and 2; the first that fails decides, and nothing but `ERR` changes. -/
def Obligations.DecodeChecksInOrder : Prop :=
  ∀ (m b1 b2 : Byte) (data : List Byte) (s : State),
    (1 < m.toNat → exec (.decode m data) s = .next { s with err := .badOperand }) ∧
    (m.toNat ≤ 1 → data.length < 13 → exec (.decode m data) s = .next { s with err := .tooSmall }) ∧
    (m.toNat ≤ 1 → 13 ≤ data.length → data[0]? ≠ some 0x55 →
      exec (.decode m data) s = .next { s with err := .badMagic }) ∧
    (m.toNat ≤ 1 → 13 ≤ data.length → data[0]? = some 0x55 → data[1]? = some b1 → data[2]? = some b2 →
      (data.length < b1.toNat + 256 * (b2.toNat % 4) →
        exec (.decode m data) s = .next { s with err := .lengthExceedsBuffer }) ∧
      (b1.toNat + 256 * (b2.toNat % 4) ≤ data.length → b1.toNat + 256 * (b2.toNat % 4) < 13 →
        exec (.decode m data) s = .next { s with err := .lengthBelowMinimum }))

/-- R150 step 6, R42, R60 to R69, R156: an operand that passes the checks is a frame of eleven fixed bytes, a payload
and two checksum bytes, then trailing bytes; DECODE loads every register and both stores from the frame, whatever the
version, the checksum bytes and bit 4 of byte 8 are, drops the trailing bytes, and computes no checksum. -/
def Obligations.DecodeLoadsTheFrame : Prop :=
  ∀ (s : State) (m b1 b2 b3 b4 b5 b6 b7 b8 b9 b10 k0 k1 : Byte) (payload trailing : List Byte),
    m.toNat ≤ 1 → b1.toNat + 256 * (b2.toNat % 4) = 13 + payload.length →
    ∃ t, exec (.decode m ([0x55, b1, b2, b3, b4, b5, b6, b7, b8, b9, b10] ++ payload ++ [k0, k1] ++ trailing)) s = .next t ∧
      t.version.toNat = b2.toNat / 4 ∧ t.length.toNat = 13 + payload.length ∧ t.hcrc = b3 ∧ t.srcRaw = b4 ∧
      t.dstRaw = b5 ∧ t.seq.toNat = 256 * b6.toNat + b7.toNat ∧ t.ctRaw = b8 ∧ t.cmdset = b9 ∧ t.cmd = b10 ∧
      t.checksum.toNat = k0.toNat + 256 * k1.toNat ∧
      t.srcType.toNat = b4.toNat % 32 ∧ t.srcIndex.toNat = b4.toNat / 32 ∧
      t.dstType.toNat = b5.toNat % 32 ∧ t.dstIndex.toNat = b5.toNat / 32 ∧
      t.ctDir.toNat = b8.toNat / 128 ∧ t.ctAck.toNat = b8.toNat / 32 % 4 ∧ t.ctEnc.toNat = b8.toNat % 16 ∧
      t.pay = payload ∧ t.payLen.toNat = payload.length ∧
      t.raw = [0x55, b1, b2, b3, b4, b5, b6, b7, b8, b9, b10] ++ payload ++ [k0, k1] ∧
      t.rawLen.toNat = 13 + payload.length ∧
      (Mode.code t.mode).toNat = m.toNat ∧ t.changed = false ∧ t.err = .ok ∧
      t.valid = s.valid ∧ keepsAccumulators s t ∧ keepsInputs s t

/-- R150, R26: a DECODE that succeeds replaces the packet whole: whether it succeeds, and the packet it makes, do not
depend on the state it starts from. -/
def Obligations.DecodeIgnoresTheOldPacket : Prop :=
  ∀ (m : Byte) (data : List Byte) (s1 s2 t1 : State), exec (.decode m data) s1 = .next t1 → t1.err = .ok →
    ∃ t2, exec (.decode m data) s2 = .next t2 ∧ t2.err = .ok ∧ samePacket t1 t2

/-! ### Unit U4: VALIDATE, ENCODE, NEW -/

/-- R152, R209: VALIDATE without a packet is `NoPacket`; with one it leaves both recomputed checksums in the
accumulators and in `VALID` whether both equal the stored registers, ends OK either way, and writes nothing else. -/
def Obligations.ValidateRecomputesAndCompares : Prop :=
  ∀ s : State,
    (s.rawLen = 0 → exec .validate s = .next { s with err := .noPacket }) ∧
    (s.rawLen ≠ 0 → Memory.wf s →
      ∃ t, exec .validate s = .next t ∧ t.c8 = checksum8 fiu (s.raw.take 3) ∧
        t.c16 = checksum16 fiu (s.raw.take (s.rawLen.toNat - 2)) ∧
        (t.valid = true ↔ t.c8 = s.hcrc ∧ t.c16 = s.checksum) ∧
        writesOnlyFields [] { s with c8 := t.c8, c16 := t.c16, valid := t.valid } t)

/-- R152, 95_test_vectors.md S7: a VALIDATE after a VALIDATE that completed leaves the very same state. -/
def Obligations.ValidateIsIdempotent : Prop :=
  ∀ s t : State, exec .validate s = .next t → t.err = .ok → exec .validate t = .next t

/-- R151, R153, R238: ENCODE without a packet is `NoPacket`, in frozen mode `Refused`; in auto mode it leaves in `RAW`
the frame of the registers as they stand, with both checksums computed over it, does not pack, and writes no other
register. -/
def Obligations.EncodeSerialises : Prop :=
  ∀ s : State,
    (s.rawLen = 0 → exec .encode s = .next { s with err := .noPacket }) ∧
    (s.rawLen ≠ 0 → s.mode = .frozen → exec .encode s = .next { s with err := .refused }) ∧
    (s.rawLen ≠ 0 → s.mode = .auto → Memory.wf s →
      ∃ t, exec .encode s = .next t ∧ frameLaidOut t ∧ headerChecksumRight t ∧ packetChecksumRight t ∧
        t.c8 = t.hcrc ∧ t.c16 = t.checksum ∧ t.err = .ok ∧
        keepsFields [.length, .hcrc, .checksum] s t ∧ keepsPay s t ∧ keepsStatus s t ∧ keepsInputs s t)

/-- R153: an ENCODE after an ENCODE that completed leaves the very same state. -/
def Obligations.EncodeIsIdempotent : Prop :=
  ∀ s t : State, Memory.wf s → exec .encode s = .next t → t.err = .ok → exec .encode t = .next t

/-- R154: NEW with a mode operand above 1, a field operand out of range, or a payload over 1010 bytes is `BadOperand`;
with every operand in range and the mode operand 1 it is `Refused`. -/
def Obligations.NewRefusals : Prop :=
  ∀ (a : NewArgs) (s : State),
    (1 < a.m.toNat ∨ 64 ≤ a.version.toNat ∨ 32 ≤ a.srcType.toNat ∨ 8 ≤ a.srcIndex.toNat ∨ 32 ≤ a.dstType.toNat ∨
        8 ≤ a.dstIndex.toNat ∨ 2 ≤ a.dir.toNat ∨ 4 ≤ a.ack.toNat ∨ 16 ≤ a.enc.toNat ∨ 1010 < a.payload.length →
      exec (.new a) s = .next { s with err := .badOperand }) ∧
    (a.m.toNat = 1 ∧ a.version.toNat < 64 ∧ a.srcType.toNat < 32 ∧ a.srcIndex.toNat < 8 ∧ a.dstType.toNat < 32 ∧
        a.dstIndex.toNat < 8 ∧ a.dir.toNat < 2 ∧ a.ack.toNat < 4 ∧ a.enc.toNat < 16 ∧ a.payload.length ≤ 1010 →
      exec (.new a) s = .next { s with err := .refused })

/-- R154: NEW with every operand in range and the mode operand 0 completes in every state: the independent fields are
the operands, the packed bytes and the payload follow, the frame is laid out with both checksums, in auto mode. -/
def Obligations.NewBuildsThePacket : Prop :=
  ∀ (a : NewArgs) (s : State), a.m = 0 →
    a.version.toNat < 64 → a.srcType.toNat < 32 → a.srcIndex.toNat < 8 → a.dstType.toNat < 32 → a.dstIndex.toNat < 8 →
    a.dir.toNat < 2 → a.ack.toNat < 4 → a.enc.toNat < 16 → a.payload.length ≤ 1010 →
    ∃ t, exec (.new a) s = .next t ∧
      t.version.toNat = a.version.toNat ∧ t.srcType.toNat = a.srcType.toNat ∧ t.srcIndex.toNat = a.srcIndex.toNat ∧
      t.dstType.toNat = a.dstType.toNat ∧ t.dstIndex.toNat = a.dstIndex.toNat ∧ t.seq = a.seq ∧
      t.ctDir.toNat = a.dir.toNat ∧ t.ctAck.toNat = a.ack.toNat ∧ t.ctEnc.toNat = a.enc.toNat ∧
      t.cmdset = a.cmdset ∧ t.cmd = a.cmd ∧ t.pay = a.payload ∧ t.payLen.toNat = a.payload.length ∧
      addressesPacked t ∧ commandTypePacked t ∧ frameLaidOut t ∧ headerChecksumRight t ∧ packetChecksumRight t ∧
      t.c8 = t.hcrc ∧ t.c16 = t.checksum ∧ t.mode = .auto ∧ t.changed = false ∧ t.err = .ok ∧ t.valid = s.valid ∧
      keepsInputs s t

/-- R155: the frame NEW builds, with or without an ENCODE after it, decodes, in any block and with any bytes after it,
to the packet NEW built. -/
def Obligations.NewThenDecodeRoundTrip : Prop :=
  ∀ (a : NewArgs) (s s1 s2 : State) (trailing : List Byte), exec (.new a) s = .next s1 → s1.err = .ok →
    exec .encode s1 = .next s1 ∧
    ∃ t, exec (.decode 0 (s1.raw ++ trailing)) s2 = .next t ∧ t.err = .ok ∧ samePacket s1 t

/-- R155, the converse direction: a DECODE in auto mode and then an ENCODE leave the operand itself in `RAW` exactly when
it holds no trailing bytes and both checksums it carries are right. -/
def Obligations.DecodeThenEncodeRestoresIffIntact : Prop :=
  ∀ (data : List Byte) (s t : State), exec (.decode 0 data) s = .next t → t.err = .ok →
    ∃ u, exec .encode t = .next u ∧ u.err = .ok ∧
      (u.raw = data ↔ t.length.toNat = data.length ∧ t.hcrc = checksum8 fiu (data.take 3) ∧
        t.checksum = checksum16 fiu (data.take (data.length - 2)))

/-! ### Unit U5 -/

/-- R74: the selector of each of the seventeen field registers with its width; every other selector is `BadOperand`. -/
def Obligations.FieldSelectors : Prop :=
  (List.range 17).map (fun n => fieldOf (BitVec.ofNat 8 n)) =
    [some .version, some .length, some .hcrc, some .srcRaw, some .dstRaw, some .srcType, some .srcIndex, some .dstType,
      some .dstIndex, some .seq, some .ctRaw, some .ctDir, some .ctAck, some .ctEnc, some .cmdset, some .cmd,
      some .checksum] ∧
  [Field.version, .length, .hcrc, .srcRaw, .dstRaw, .srcType, .srcIndex, .dstType, .dstIndex, .seq, .ctRaw, .ctDir,
      .ctAck, .ctEnc, .cmdset, .cmd, .checksum].map fieldWidth =
    [6, 10, 8, 8, 8, 5, 3, 5, 3, 16, 8, 1, 2, 4, 8, 8, 16] ∧
  ∀ (fsel : Byte) (v : Half) (s : State), 0x10 < fsel.toNat →
    exec (.wrf fsel v) s = .next { s with err := .badOperand }

/-- R181, R182: a WRF of a value that does not fit its field, and a WRPAY of more than 1010 bytes, are `BadOperand`
whether or not a packet is present; in range they are `NoPacket` without one. -/
def Obligations.FieldWriteRefusals : Prop :=
  ∀ (fsel : Byte) (f : Field) (v : Half) (data : List Byte) (s : State),
    (fieldOf fsel = some f → 2 ^ fieldWidth f ≤ v.toNat →
      exec (.wrf fsel v) s = .next { s with err := .badOperand }) ∧
    (fieldOf fsel = some f → v.toNat < 2 ^ fieldWidth f → s.rawLen = 0 →
      exec (.wrf fsel v) s = .next { s with err := .noPacket }) ∧
    (1010 < data.length → exec (.wrpay data) s = .next { s with err := .badOperand }) ∧
    (data.length ≤ 1010 → s.rawLen = 0 → exec (.wrpay data) s = .next { s with err := .noPacket })

/-- R181, R237: in frozen mode a WRF writes the one register it names and `CHANGED`, and no other state: not `RAW`, no
raw byte or sub-field that goes with it, no checksum. -/
def Obligations.FrozenWrfWritesOneRegister : Prop :=
  ∀ (fsel : Byte) (f : Field) (v : Half) (s : State), fieldOf fsel = some f → v.toNat < 2 ^ fieldWidth f →
    s.rawLen ≠ 0 → s.mode = .frozen →
    ∃ t, exec (.wrf fsel v) s = .next t ∧ getField f t = v ∧ t.changed = true ∧
      writesOnlyFields [f] { s with changed := true } t

/-- R180, R181, R236: in auto mode a WRF writes its register and recalculates: the packed bytes from the sub-fields, the
length, both checksums, the frame. A register that is not derived holds the value written; a derived one holds what the
recalculation gives; no other register changes. -/
def Obligations.AutoWrfRecalculates : Prop :=
  ∀ (fsel : Byte) (f : Field) (v : Half) (s : State), fieldOf fsel = some f → v.toNat < 2 ^ fieldWidth f →
    s.rawLen ≠ 0 → s.mode = .auto → Memory.wf s →
    ∃ t, exec (.wrf fsel v) s = .next t ∧ (f ∉ derivedFields → getField f t = v) ∧
      keepsFields (f :: derivedFields) s t ∧ keepsPay s t ∧
      addressesPacked t ∧ commandTypePacked t ∧ frameLaidOut t ∧ headerChecksumRight t ∧ packetChecksumRight t ∧
      t.c8 = t.hcrc ∧ t.c16 = t.checksum ∧ t.changed = true ∧ t.mode = .auto ∧ t.valid = s.valid ∧ t.err = .ok ∧
      keepsInputs s t

/-- R181, R236: in auto mode a WRF to a derived register leaves the state that a WRF of the command opcode to the value
it already holds leaves: the value written is lost. -/
def Obligations.AutoWrfToDerivedRegisterIsLost : Prop :=
  ∀ (fsel : Byte) (f : Field) (v : Half) (s : State), fieldOf fsel = some f → f ∈ derivedFields →
    v.toNat < 2 ^ fieldWidth f → s.mode = .auto →
    exec (.wrf fsel v) s = exec (.wrf 0x0F (s.cmd.setWidth 16)) s

/-- R182, R237: in frozen mode a WRPAY replaces the payload and sets `CHANGED`, and no other state: the frame still
carries the old payload. -/
def Obligations.FrozenWrpayWritesPayloadOnly : Prop :=
  ∀ (data : List Byte) (s : State), data.length ≤ 1010 → s.rawLen ≠ 0 → s.mode = .frozen →
    ∃ t, exec (.wrpay data) s = .next t ∧ t.pay = data ∧ t.payLen.toNat = data.length ∧ t.changed = true ∧
      t.err = .ok ∧ keepsFields [] s t ∧ keepsRaw s t ∧ keepsAccumulators s t ∧ t.mode = s.mode ∧ t.valid = s.valid ∧
      keepsInputs s t

/-- R180, R182: in auto mode a WRPAY replaces the payload and recalculates, `LENGTH` becoming 13 plus its length; no
register that is not derived changes. The empty payload is one case of it. -/
def Obligations.AutoWrpayRecalculates : Prop :=
  ∀ (data : List Byte) (s : State), data.length ≤ 1010 → s.rawLen ≠ 0 → s.mode = .auto →
    ∃ t, exec (.wrpay data) s = .next t ∧ t.pay = data ∧ t.payLen.toNat = data.length ∧
      t.length.toNat = 13 + data.length ∧ keepsFields derivedFields s t ∧
      addressesPacked t ∧ commandTypePacked t ∧ frameLaidOut t ∧ headerChecksumRight t ∧ packetChecksumRight t ∧
      t.c8 = t.hcrc ∧ t.c16 = t.checksum ∧ t.changed = true ∧ t.mode = .auto ∧ t.valid = s.valid ∧ t.err = .ok ∧
      keepsInputs s t

/-- R183: WRRAW always ends with `ImmutableRawBuffer`, code 4, and changes nothing else, in every mode, with or without a
packet, whatever the operand, even `RAW` itself; its command is `0x5F`, the count low byte first, the bytes, all of
which are consumed. -/
def Obligations.WrrawIsAlwaysRefused : Prop :=
  Err.code .immutableRawBuffer = 4 ∧
  ∀ (data : List Byte) (s : State),
    exec (.wrraw data) s = .next { s with err := .immutableRawBuffer } ∧
    (data.length ≤ 65535 → ∀ rest : List Byte, s.rst = false →
      s.port = [0x5F, BitVec.ofNat 8 (data.length % 256), BitVec.ofNat 8 (data.length / 256)] ++ data ++ rest →
      step s = .next { s with port := rest, err := .immutableRawBuffer })

/-! ### The whole block -/

/-- R206: an operation that ends with an error changes nothing but `ERR`. -/
def Obligations.ErrorsChangeNothingElse : Prop :=
  ∀ (i : Instr) (s t : State), exec i s = .next t → t.err ≠ .ok → t = { s with err := t.err }

/-- R200, R201: the errors each operation can end with; no operation writes `MalformedHex`; the codes of the kinds. -/
def Obligations.ErrorsByOperation : Prop :=
  (∀ (i : Instr) (s t : State), exec i s = .next t → t.err = .ok ∨ t.err ∈ errorsOf i) ∧
  (∀ (data : List Byte) (s t : State), exec (.wrraw data) s = .next t → t.err ≠ .ok) ∧
  (∀ i : Instr, Err.malformedHex ∉ errorsOf i) ∧
  [Err.ok, .tooSmall, .badMagic, .lengthExceedsBuffer, .immutableRawBuffer, .malformedHex, .lengthBelowMinimum,
      .noPacket, .illegalOp, .badOperand, .refused].map (fun e => (Err.code e).toNat) = List.range 11

/-- R22, R207: `ERR` is not sticky and disables nothing: what an operation does, and the `ERR` it leaves, do not depend
on the `ERR` before it. -/
def Obligations.ErrIsOverwritten : Prop :=
  ∀ (i : Instr) (s : State) (e : Err), exec i { s with err := e } = exec i s

/-- R184: `MODE` is set by DECODE and NEW from their mode operand, and by nothing else. -/
def Obligations.ModeIsFixedAtConstruction : Prop :=
  ∀ (i : Instr) (s t : State), exec i s = .next t →
    (constructs i = false → t.mode = s.mode) ∧ (t.err ≠ .ok → t.mode = s.mode) ∧
    (∀ (m : Byte) (data : List Byte), i = .decode m data → t.err = .ok → (Mode.code t.mode).toNat = m.toNat) ∧
    (∀ a : NewArgs, i = .new a → t.err = .ok → (Mode.code t.mode).toNat = a.m.toNat)

/-- R20, R185: a successful DECODE or NEW clears `CHANGED`, a successful WRF or WRPAY sets it in both modes, whatever the
value written, a failed operation and every other operation leave it as it was, and reset clears it. -/
def Obligations.ChangedIsMonotoneBetweenConstructions : Prop :=
  State.reset.changed = false ∧
  ∀ (i : Instr) (s t : State), exec i s = .next t →
    (constructs i = true → t.err = .ok → t.changed = false) ∧
    (writesField i = true → t.err = .ok → t.changed = true) ∧
    (t.err ≠ .ok ∨ (constructs i = false ∧ writesField i = false) → t.changed = s.changed)

/-- R21: `VALID` is written only by a VALIDATE that completes, where it says whether both stored checksums matched the
recomputed ones, and is cleared by reset. -/
def Obligations.ValidIsWrittenByValidateOnly : Prop :=
  State.reset.valid = false ∧
  ∀ (i : Instr) (s t : State), exec i s = .next t →
    (i ≠ .validate ∨ t.err ≠ .ok → t.valid = s.valid) ∧
    (i = .validate → t.err = .ok →
      (t.valid = true ↔ checksum8 fiu (s.raw.take 3) = s.hcrc ∧
        checksum16 fiu (s.raw.take (s.rawLen.toNat - 2)) = s.checksum))

/-- R26, R181, R182, R201, R204: no packet is present after reset; a successful DECODE or NEW makes one present, no
operation makes it absent, and an operation that needs one fails without it, with `NoPacket`, or with `BadOperand`
where an operand is out of range. -/
def Obligations.PacketPresence : Prop :=
  State.reset.rawLen = 0 ∧
  (∀ (i : Instr) (s t : State), exec i s = .next t → Memory.wf s →
    (constructs i = true → t.err = .ok → t.rawLen ≠ 0) ∧ (s.rawLen ≠ 0 → t.rawLen ≠ 0)) ∧
  ∀ (i : Instr) (s : State), needsPacket i = true → s.rawLen = 0 →
    (fieldOperandsInRange i → exec i s = .next { s with err := .noPacket }) ∧
    (¬ fieldOperandsInRange i → exec i s = .next { s with err := .badOperand })

/-- R18, R40, R41: `PAY` is written only by DECODE, NEW and WRPAY; `RAW` only by DECODE, NEW, ENCODE, WRF and WRPAY; the
accumulators by none of DECODE, WRRAW and the U3 operations. -/
def Obligations.StoresAndAccumulatorsHaveTheirWriters : Prop :=
  ∀ (i : Instr) (s t : State), exec i s = .next t →
    (constructs i = false → (∀ data, i ≠ .wrpay data) → keepsPay s t) ∧
    (constructs i = false → writesField i = false → i ≠ .encode → keepsRaw s t) ∧
    ((∃ m data, i = .decode m data) ∨ (∃ data, i = .wrraw data) ∨
        i ∈ [.pksrc, .upksrc, .pkdst, .upkdst, .pkct, .upkct] → keepsAccumulators s t)

/-- R17, R237: while a packet is frozen, no operation but the construction of a new one changes a byte of `RAW`, or
`RAWLEN`. -/
def Obligations.FrozenFrameIsNeverRewritten : Prop :=
  ∀ (i : Instr) (s t : State), s.mode = .frozen → exec i s = .next t → constructs i = false → keepsRaw s t

/-- R25: the six invariants hold after a successful NEW, WRF or WRPAY that recalculates; after an ENCODE all of them but
the two about packing, which hold when they held before it; after a DECODE the lengths, the packed addresses and the
magic byte, the command-type packing exactly when bit 4 is clear, and each checksum exactly when the wire carried the
right one (the last is the invariant itself); and a frozen WRF keeps the magic byte. -/
def Obligations.RecalculationEstablishesInvariants : Prop :=
  ∀ (i : Instr) (s t : State), Memory.wf s → exec i s = .next t → t.err = .ok →
    ((∃ a, i = .new a) ∨ (writesField i = true ∧ s.mode = .auto) → consistent t) ∧
    (i = .encode → lengthsAgree t ∧ headerChecksumRight t ∧ packetChecksumRight t ∧ magicInPlace t ∧
      (addressesPacked s → addressesPacked t) ∧ (commandTypePacked s → commandTypePacked t)) ∧
    (∀ m data, i = .decode m data → lengthsAgree t ∧ addressesPacked t ∧ magicInPlace t ∧
      (commandTypePacked t ↔ ∃ b : Byte, data[8]? = some b ∧ b.getLsbD 4 = false) ∧
      (headerChecksumRight t ↔ data[3]? = some (checksum8 fiu (data.take 3))) ∧
      (packetChecksumRight t ↔
        data[t.length.toNat - 2]? = some (loByte (checksum16 fiu (data.take (t.length.toNat - 2)))) ∧
        data[t.length.toNat - 1]? = some (hiByte (checksum16 fiu (data.take (t.length.toNat - 2)))))) ∧
    (writesField i = true → s.mode = .frozen → magicInPlace s → magicInPlace t)

/-- R153, R154: right after a successful ENCODE, NEW, or auto-mode WRF or WRPAY, a VALIDATE completes with `VALID` 1. -/
def Obligations.ValidAfterRecalculation : Prop :=
  ∀ (i : Instr) (s t : State), Memory.wf s → exec i s = .next t → t.err = .ok →
    (i = .encode ∨ (∃ a, i = .new a) ∨ (writesField i = true ∧ s.mode = .auto)) →
    ∃ u, exec .validate t = .next u ∧ u.err = .ok ∧ u.valid = true

/-- The invariant `Inv` holds at reset. -/
def Obligations.ResetMeetsTheInvariant : Prop := Inv State.reset

/-- R16, R17, R25, R26, R212: every step keeps the invariant, whatever bytes the host has presented. -/
def Obligations.StepKeepsTheInvariant : Prop := ∀ s t : State, Inv s → step s = .next t → Inv t

/-- R40, R206: from every state whose stores have their form, no bytes the host can present stop the block: every step
answers a next state, neither a fault nor a refusal. -/
def Obligations.NoStepStops : Prop := ∀ s : State, Memory.wf s → goesOn (step s)

/-! ### The host side -/

/-- R78, R79, R212: in either letter case, the hex string of a byte sequence converts back to it, so DECODEHEX of what
TOHEX writes issues a DECODE of `RAW`. -/
def Obligations.HexRoundTrip : Prop :=
  (∀ (c : HexCase) (m : Byte) (bytes : List Byte), decodeHex m (hexString c bytes) = .ok (.decode m bytes)) ∧
  ∀ (m : Byte) (s : State), decodeHex m (toHex s) = .ok (.decode m s.raw)

/-- R78: DECODEHEX is `MalformedHex`, and issues no operation, exactly when the string has odd length or holds a
character that is no hex digit. -/
def Obligations.MalformedHexExactly : Prop :=
  ∀ (m : Byte) (str : List Char), decodeHex m str = .error .malformedHex ↔
    str.length % 2 = 1 ∨ ∃ c ∈ str, c ∉ ['0', '1', '2', '3', '4', '5', '6', '7', '8', '9', 'a', 'b', 'c', 'd', 'e', 'f',
      'A', 'B', 'C', 'D', 'E', 'F']
end

