-- ==== Sys2Proof/Laws/Bitfield.lean ====
section
/-! SUPPORT. The four packing functions as numbers: the sub-fields of a byte occupy disjoint bits, so a pack is a sum and an
unpack a quotient and a remainder (spec/43_bitfield.md R130 to R133). -/

namespace Sys2Proof.Machine

theorem packAddress_toNat (ty : BitVec 5) (ix : BitVec 3) :
    (packAddress ty ix).toNat = ty.toNat + 32 * ix.toNat := by
  revert ty ix
  decide +kernel

theorem unpackAddress_type_toNat (b : Byte) : (unpackAddress b).1.toNat = b.toNat % 32 := by
  simp [unpackAddress, BitVec.extractLsb'_toNat]

theorem unpackAddress_index_toNat (b : Byte) : (unpackAddress b).2.toNat = b.toNat / 32 := by
  have := b.isLt
  simp only [unpackAddress, BitVec.extractLsb'_toNat, Nat.shiftRight_eq_div_pow]
  omega

theorem packCommandType_toNat (d : BitVec 1) (a : BitVec 2) (e : BitVec 4) :
    (packCommandType d a e).toNat = 128 * d.toNat + 32 * a.toNat + e.toNat := by
  revert d a e
  decide +kernel

theorem unpackCommandType_dir_toNat (b : Byte) : (unpackCommandType b).1.toNat = b.toNat / 128 := by
  have := b.isLt
  simp only [unpackCommandType, BitVec.extractLsb'_toNat, Nat.shiftRight_eq_div_pow]
  omega

theorem unpackCommandType_ack_toNat (b : Byte) : (unpackCommandType b).2.1.toNat = b.toNat / 32 % 4 := by
  simp [unpackCommandType, BitVec.extractLsb'_toNat, Nat.shiftRight_eq_div_pow]

theorem unpackCommandType_enc_toNat (b : Byte) : (unpackCommandType b).2.2.toNat = b.toNat % 16 := by
  simp [unpackCommandType, BitVec.extractLsb'_toNat]

end Sys2Proof.Machine
end

