-- ==== Sys2Proof/Laws/Codec.lean ====
section
/-! SUPPORT. The small lemmas of the byte-order helpers and of the counted operand of the command stream. -/

namespace Sys2Proof

theorem loByte_toNat (w : Half) : (loByte w).toNat = w.toNat % 256 := by
  simp [loByte, BitVec.extractLsb'_toNat]

theorem hiByte_toNat (w : Half) : (hiByte w).toNat = w.toNat / 256 := by
  have := w.isLt
  simp only [hiByte, BitVec.extractLsb'_toNat, Nat.shiftRight_eq_div_pow]
  omega

theorem word16_eq_append (lo hi : Byte) : word16 lo hi = hi ++ lo := by
  apply BitVec.eq_of_getLsbD_eq
  intro i h
  simp only [word16, BitVec.getLsbD_or, BitVec.getLsbD_setWidth, BitVec.getLsbD_shiftLeft, BitVec.getLsbD_append]
  by_cases h8 : i < 8
  · simp [h8, h]
  · have : lo.getLsbD i = false := BitVec.getLsbD_of_ge lo i (by omega)
    simp [h8, h, this]
    omega

theorem word16_toNat (lo hi : Byte) : (word16 lo hi).toNat = lo.toNat + 256 * hi.toNat := by
  have := lo.isLt
  rw [word16_eq_append, BitVec.toNat_append, ← Nat.shiftLeft_add_eq_or_of_lt this, Nat.shiftLeft_eq]
  omega

@[simp] theorem word16_lo_hi (w : Half) : word16 (loByte w) (hiByte w) = w := by
  apply BitVec.eq_of_toNat_eq
  rw [word16_toNat, loByte_toNat, hiByte_toNat]
  omega

@[simp] theorem loByte_word16 (lo hi : Byte) : loByte (word16 lo hi) = lo := by
  apply BitVec.eq_of_toNat_eq
  have := lo.isLt
  rw [loByte_toNat, word16_toNat]
  omega

@[simp] theorem hiByte_word16 (lo hi : Byte) : hiByte (word16 lo hi) = hi := by
  apply BitVec.eq_of_toNat_eq
  have := lo.isLt
  rw [hiByte_toNat, word16_toNat]
  omega

/-- A counted operand is read back, with what follows it. -/
theorem takeCounted_encodeCounted (data rest : List Byte) (h : data.length ≤ inMax) :
    takeCounted (encodeCounted data ++ rest) = some (data, rest) := by
  have hn : (BitVec.ofNat 16 data.length).toNat = data.length := by
    simp only [inMax] at h
    simp only [BitVec.toNat_ofNat]
    omega
  simp [encodeCounted, encodeHalf, takeCounted, hn]

/-- What a counted operand was read from: its count, its bytes, then the rest. -/
theorem takeCounted_eq_some (bytes data rest : List Byte) (h : takeCounted bytes = some (data, rest)) :
    data.length ≤ inMax ∧ bytes = encodeCounted data ++ rest := by
  match bytes, h with
  | lo :: hi :: tail, h =>
    simp only [takeCounted] at h
    split at h
    · rename_i hle
      simp only [Option.some.injEq, Prod.mk.injEq] at h
      obtain ⟨rfl, rfl⟩ := h
      have hlt := (word16 lo hi).isLt
      have hlen : (tail.take (word16 lo hi).toNat).length = (word16 lo hi).toNat := by simp [hle]
      refine ⟨by simp only [hlen, inMax]; omega, ?_⟩
      simp only [encodeCounted, encodeHalf, hlen, BitVec.ofNat_toNat, BitVec.setWidth_eq, loByte_word16,
        hiByte_word16, List.cons_append, List.nil_append, List.take_append_drop]
    · exact absurd h (by simp)
  | [_], h => exact absurd h (by simp [takeCounted])
  | [], h => exact absurd h (by simp [takeCounted])

@[simp] theorem encodeHalf_length (w : Half) : (encodeHalf w).length = 2 := rfl

@[simp] theorem encodeCounted_length (data : List Byte) : (encodeCounted data).length = 2 + data.length := by
  simp [encodeCounted]

end Sys2Proof
end

