-- ==== Sys2Proof/Laws/Crc.lean ====
section
/-! SUPPORT. The small lemmas of the two checksum functions: one byte more, one sequence more. -/

namespace Sys2Proof.Machine

@[simp] theorem checksum16_nil (k : Config) : checksum16 k [] = k.seed16 := rfl

theorem checksum16_concat (k : Config) (s : List Byte) (b : Byte) :
    checksum16 k (s ++ [b]) = crc16Step k (checksum16 k s) b := by
  simp [checksum16]

theorem checksum16_append (k : Config) (s t : List Byte) :
    checksum16 k (s ++ t) = t.foldl (crc16Step k) (checksum16 k s) := by
  simp [checksum16]

@[simp] theorem checksum8_nil (k : Config) : checksum8 k [] = k.seed8 := rfl

theorem checksum8_concat (k : Config) (s : List Byte) (b : Byte) :
    checksum8 k (s ++ [b]) = crc8Step k (checksum8 k s) b := by
  simp [checksum8]

theorem checksum8_append (k : Config) (s t : List Byte) :
    checksum8 k (s ++ t) = t.foldl (crc8Step k) (checksum8 k s) := by
  simp [checksum8]

end Sys2Proof.Machine
end

