-- ==== Sys2Proof/Laws/State.lean ====
section
/-! SUPPORT. What each update of the state leaves in each field: one lemma per field per update, true by rfl, so that no
later proof unfolds a record update. -/

namespace Sys2Proof.Machine

/-! raise -/

@[simp] theorem raise_version (e : Err) (s : State) : (raise e s).version = s.version := rfl
@[simp] theorem raise_length (e : Err) (s : State) : (raise e s).length = s.length := rfl
@[simp] theorem raise_hcrc (e : Err) (s : State) : (raise e s).hcrc = s.hcrc := rfl
@[simp] theorem raise_srcRaw (e : Err) (s : State) : (raise e s).srcRaw = s.srcRaw := rfl
@[simp] theorem raise_dstRaw (e : Err) (s : State) : (raise e s).dstRaw = s.dstRaw := rfl
@[simp] theorem raise_srcType (e : Err) (s : State) : (raise e s).srcType = s.srcType := rfl
@[simp] theorem raise_srcIndex (e : Err) (s : State) : (raise e s).srcIndex = s.srcIndex := rfl
@[simp] theorem raise_dstType (e : Err) (s : State) : (raise e s).dstType = s.dstType := rfl
@[simp] theorem raise_dstIndex (e : Err) (s : State) : (raise e s).dstIndex = s.dstIndex := rfl
@[simp] theorem raise_seq (e : Err) (s : State) : (raise e s).seq = s.seq := rfl
@[simp] theorem raise_ctRaw (e : Err) (s : State) : (raise e s).ctRaw = s.ctRaw := rfl
@[simp] theorem raise_ctDir (e : Err) (s : State) : (raise e s).ctDir = s.ctDir := rfl
@[simp] theorem raise_ctAck (e : Err) (s : State) : (raise e s).ctAck = s.ctAck := rfl
@[simp] theorem raise_ctEnc (e : Err) (s : State) : (raise e s).ctEnc = s.ctEnc := rfl
@[simp] theorem raise_cmdset (e : Err) (s : State) : (raise e s).cmdset = s.cmdset := rfl
@[simp] theorem raise_cmd (e : Err) (s : State) : (raise e s).cmd = s.cmd := rfl
@[simp] theorem raise_checksum (e : Err) (s : State) : (raise e s).checksum = s.checksum := rfl
@[simp] theorem raise_pay (e : Err) (s : State) : (raise e s).pay = s.pay := rfl
@[simp] theorem raise_payLen (e : Err) (s : State) : (raise e s).payLen = s.payLen := rfl
@[simp] theorem raise_raw (e : Err) (s : State) : (raise e s).raw = s.raw := rfl
@[simp] theorem raise_rawLen (e : Err) (s : State) : (raise e s).rawLen = s.rawLen := rfl
@[simp] theorem raise_c16 (e : Err) (s : State) : (raise e s).c16 = s.c16 := rfl
@[simp] theorem raise_c8 (e : Err) (s : State) : (raise e s).c8 = s.c8 := rfl
@[simp] theorem raise_mode (e : Err) (s : State) : (raise e s).mode = s.mode := rfl
@[simp] theorem raise_changed (e : Err) (s : State) : (raise e s).changed = s.changed := rfl
@[simp] theorem raise_valid (e : Err) (s : State) : (raise e s).valid = s.valid := rfl
@[simp] theorem raise_err (e : Err) (s : State) : (raise e s).err = e := rfl
@[simp] theorem raise_port (e : Err) (s : State) : (raise e s).port = s.port := rfl
@[simp] theorem raise_rst (e : Err) (s : State) : (raise e s).rst = s.rst := rfl

/-! done -/

@[simp] theorem done_version (s : State) : (done s).version = s.version := rfl
@[simp] theorem done_length (s : State) : (done s).length = s.length := rfl
@[simp] theorem done_hcrc (s : State) : (done s).hcrc = s.hcrc := rfl
@[simp] theorem done_srcRaw (s : State) : (done s).srcRaw = s.srcRaw := rfl
@[simp] theorem done_dstRaw (s : State) : (done s).dstRaw = s.dstRaw := rfl
@[simp] theorem done_srcType (s : State) : (done s).srcType = s.srcType := rfl
@[simp] theorem done_srcIndex (s : State) : (done s).srcIndex = s.srcIndex := rfl
@[simp] theorem done_dstType (s : State) : (done s).dstType = s.dstType := rfl
@[simp] theorem done_dstIndex (s : State) : (done s).dstIndex = s.dstIndex := rfl
@[simp] theorem done_seq (s : State) : (done s).seq = s.seq := rfl
@[simp] theorem done_ctRaw (s : State) : (done s).ctRaw = s.ctRaw := rfl
@[simp] theorem done_ctDir (s : State) : (done s).ctDir = s.ctDir := rfl
@[simp] theorem done_ctAck (s : State) : (done s).ctAck = s.ctAck := rfl
@[simp] theorem done_ctEnc (s : State) : (done s).ctEnc = s.ctEnc := rfl
@[simp] theorem done_cmdset (s : State) : (done s).cmdset = s.cmdset := rfl
@[simp] theorem done_cmd (s : State) : (done s).cmd = s.cmd := rfl
@[simp] theorem done_checksum (s : State) : (done s).checksum = s.checksum := rfl
@[simp] theorem done_pay (s : State) : (done s).pay = s.pay := rfl
@[simp] theorem done_payLen (s : State) : (done s).payLen = s.payLen := rfl
@[simp] theorem done_raw (s : State) : (done s).raw = s.raw := rfl
@[simp] theorem done_rawLen (s : State) : (done s).rawLen = s.rawLen := rfl
@[simp] theorem done_c16 (s : State) : (done s).c16 = s.c16 := rfl
@[simp] theorem done_c8 (s : State) : (done s).c8 = s.c8 := rfl
@[simp] theorem done_mode (s : State) : (done s).mode = s.mode := rfl
@[simp] theorem done_changed (s : State) : (done s).changed = s.changed := rfl
@[simp] theorem done_valid (s : State) : (done s).valid = s.valid := rfl
@[simp] theorem done_err (s : State) : (done s).err = .ok := rfl
@[simp] theorem done_port (s : State) : (done s).port = s.port := rfl
@[simp] theorem done_rst (s : State) : (done s).rst = s.rst := rfl

/-! consume -/

@[simp] theorem consume_version (rest : List Byte) (s : State) : (consume rest s).version = s.version := rfl
@[simp] theorem consume_length (rest : List Byte) (s : State) : (consume rest s).length = s.length := rfl
@[simp] theorem consume_hcrc (rest : List Byte) (s : State) : (consume rest s).hcrc = s.hcrc := rfl
@[simp] theorem consume_srcRaw (rest : List Byte) (s : State) : (consume rest s).srcRaw = s.srcRaw := rfl
@[simp] theorem consume_dstRaw (rest : List Byte) (s : State) : (consume rest s).dstRaw = s.dstRaw := rfl
@[simp] theorem consume_srcType (rest : List Byte) (s : State) : (consume rest s).srcType = s.srcType := rfl
@[simp] theorem consume_srcIndex (rest : List Byte) (s : State) : (consume rest s).srcIndex = s.srcIndex := rfl
@[simp] theorem consume_dstType (rest : List Byte) (s : State) : (consume rest s).dstType = s.dstType := rfl
@[simp] theorem consume_dstIndex (rest : List Byte) (s : State) : (consume rest s).dstIndex = s.dstIndex := rfl
@[simp] theorem consume_seq (rest : List Byte) (s : State) : (consume rest s).seq = s.seq := rfl
@[simp] theorem consume_ctRaw (rest : List Byte) (s : State) : (consume rest s).ctRaw = s.ctRaw := rfl
@[simp] theorem consume_ctDir (rest : List Byte) (s : State) : (consume rest s).ctDir = s.ctDir := rfl
@[simp] theorem consume_ctAck (rest : List Byte) (s : State) : (consume rest s).ctAck = s.ctAck := rfl
@[simp] theorem consume_ctEnc (rest : List Byte) (s : State) : (consume rest s).ctEnc = s.ctEnc := rfl
@[simp] theorem consume_cmdset (rest : List Byte) (s : State) : (consume rest s).cmdset = s.cmdset := rfl
@[simp] theorem consume_cmd (rest : List Byte) (s : State) : (consume rest s).cmd = s.cmd := rfl
@[simp] theorem consume_checksum (rest : List Byte) (s : State) : (consume rest s).checksum = s.checksum := rfl
@[simp] theorem consume_pay (rest : List Byte) (s : State) : (consume rest s).pay = s.pay := rfl
@[simp] theorem consume_payLen (rest : List Byte) (s : State) : (consume rest s).payLen = s.payLen := rfl
@[simp] theorem consume_raw (rest : List Byte) (s : State) : (consume rest s).raw = s.raw := rfl
@[simp] theorem consume_rawLen (rest : List Byte) (s : State) : (consume rest s).rawLen = s.rawLen := rfl
@[simp] theorem consume_c16 (rest : List Byte) (s : State) : (consume rest s).c16 = s.c16 := rfl
@[simp] theorem consume_c8 (rest : List Byte) (s : State) : (consume rest s).c8 = s.c8 := rfl
@[simp] theorem consume_mode (rest : List Byte) (s : State) : (consume rest s).mode = s.mode := rfl
@[simp] theorem consume_changed (rest : List Byte) (s : State) : (consume rest s).changed = s.changed := rfl
@[simp] theorem consume_valid (rest : List Byte) (s : State) : (consume rest s).valid = s.valid := rfl
@[simp] theorem consume_err (rest : List Byte) (s : State) : (consume rest s).err = s.err := rfl
@[simp] theorem consume_port (rest : List Byte) (s : State) : (consume rest s).port = rest := rfl
@[simp] theorem consume_rst (rest : List Byte) (s : State) : (consume rest s).rst = s.rst := rfl

/-! writePay -/

@[simp] theorem writePay_version (p : List Byte) (s : State) : (writePay p s).version = s.version := rfl
@[simp] theorem writePay_length (p : List Byte) (s : State) : (writePay p s).length = s.length := rfl
@[simp] theorem writePay_hcrc (p : List Byte) (s : State) : (writePay p s).hcrc = s.hcrc := rfl
@[simp] theorem writePay_srcRaw (p : List Byte) (s : State) : (writePay p s).srcRaw = s.srcRaw := rfl
@[simp] theorem writePay_dstRaw (p : List Byte) (s : State) : (writePay p s).dstRaw = s.dstRaw := rfl
@[simp] theorem writePay_srcType (p : List Byte) (s : State) : (writePay p s).srcType = s.srcType := rfl
@[simp] theorem writePay_srcIndex (p : List Byte) (s : State) : (writePay p s).srcIndex = s.srcIndex := rfl
@[simp] theorem writePay_dstType (p : List Byte) (s : State) : (writePay p s).dstType = s.dstType := rfl
@[simp] theorem writePay_dstIndex (p : List Byte) (s : State) : (writePay p s).dstIndex = s.dstIndex := rfl
@[simp] theorem writePay_seq (p : List Byte) (s : State) : (writePay p s).seq = s.seq := rfl
@[simp] theorem writePay_ctRaw (p : List Byte) (s : State) : (writePay p s).ctRaw = s.ctRaw := rfl
@[simp] theorem writePay_ctDir (p : List Byte) (s : State) : (writePay p s).ctDir = s.ctDir := rfl
@[simp] theorem writePay_ctAck (p : List Byte) (s : State) : (writePay p s).ctAck = s.ctAck := rfl
@[simp] theorem writePay_ctEnc (p : List Byte) (s : State) : (writePay p s).ctEnc = s.ctEnc := rfl
@[simp] theorem writePay_cmdset (p : List Byte) (s : State) : (writePay p s).cmdset = s.cmdset := rfl
@[simp] theorem writePay_cmd (p : List Byte) (s : State) : (writePay p s).cmd = s.cmd := rfl
@[simp] theorem writePay_checksum (p : List Byte) (s : State) : (writePay p s).checksum = s.checksum := rfl
@[simp] theorem writePay_pay (p : List Byte) (s : State) : (writePay p s).pay = p := rfl
@[simp] theorem writePay_payLen (p : List Byte) (s : State) : (writePay p s).payLen = BitVec.ofNat 10 p.length := rfl
@[simp] theorem writePay_raw (p : List Byte) (s : State) : (writePay p s).raw = s.raw := rfl
@[simp] theorem writePay_rawLen (p : List Byte) (s : State) : (writePay p s).rawLen = s.rawLen := rfl
@[simp] theorem writePay_c16 (p : List Byte) (s : State) : (writePay p s).c16 = s.c16 := rfl
@[simp] theorem writePay_c8 (p : List Byte) (s : State) : (writePay p s).c8 = s.c8 := rfl
@[simp] theorem writePay_mode (p : List Byte) (s : State) : (writePay p s).mode = s.mode := rfl
@[simp] theorem writePay_changed (p : List Byte) (s : State) : (writePay p s).changed = s.changed := rfl
@[simp] theorem writePay_valid (p : List Byte) (s : State) : (writePay p s).valid = s.valid := rfl
@[simp] theorem writePay_err (p : List Byte) (s : State) : (writePay p s).err = s.err := rfl
@[simp] theorem writePay_port (p : List Byte) (s : State) : (writePay p s).port = s.port := rfl
@[simp] theorem writePay_rst (p : List Byte) (s : State) : (writePay p s).rst = s.rst := rfl

/-! writeRaw -/

@[simp] theorem writeRaw_version (f : List Byte) (s : State) : (writeRaw f s).version = s.version := rfl
@[simp] theorem writeRaw_length (f : List Byte) (s : State) : (writeRaw f s).length = s.length := rfl
@[simp] theorem writeRaw_hcrc (f : List Byte) (s : State) : (writeRaw f s).hcrc = s.hcrc := rfl
@[simp] theorem writeRaw_srcRaw (f : List Byte) (s : State) : (writeRaw f s).srcRaw = s.srcRaw := rfl
@[simp] theorem writeRaw_dstRaw (f : List Byte) (s : State) : (writeRaw f s).dstRaw = s.dstRaw := rfl
@[simp] theorem writeRaw_srcType (f : List Byte) (s : State) : (writeRaw f s).srcType = s.srcType := rfl
@[simp] theorem writeRaw_srcIndex (f : List Byte) (s : State) : (writeRaw f s).srcIndex = s.srcIndex := rfl
@[simp] theorem writeRaw_dstType (f : List Byte) (s : State) : (writeRaw f s).dstType = s.dstType := rfl
@[simp] theorem writeRaw_dstIndex (f : List Byte) (s : State) : (writeRaw f s).dstIndex = s.dstIndex := rfl
@[simp] theorem writeRaw_seq (f : List Byte) (s : State) : (writeRaw f s).seq = s.seq := rfl
@[simp] theorem writeRaw_ctRaw (f : List Byte) (s : State) : (writeRaw f s).ctRaw = s.ctRaw := rfl
@[simp] theorem writeRaw_ctDir (f : List Byte) (s : State) : (writeRaw f s).ctDir = s.ctDir := rfl
@[simp] theorem writeRaw_ctAck (f : List Byte) (s : State) : (writeRaw f s).ctAck = s.ctAck := rfl
@[simp] theorem writeRaw_ctEnc (f : List Byte) (s : State) : (writeRaw f s).ctEnc = s.ctEnc := rfl
@[simp] theorem writeRaw_cmdset (f : List Byte) (s : State) : (writeRaw f s).cmdset = s.cmdset := rfl
@[simp] theorem writeRaw_cmd (f : List Byte) (s : State) : (writeRaw f s).cmd = s.cmd := rfl
@[simp] theorem writeRaw_checksum (f : List Byte) (s : State) : (writeRaw f s).checksum = s.checksum := rfl
@[simp] theorem writeRaw_pay (f : List Byte) (s : State) : (writeRaw f s).pay = s.pay := rfl
@[simp] theorem writeRaw_payLen (f : List Byte) (s : State) : (writeRaw f s).payLen = s.payLen := rfl
@[simp] theorem writeRaw_raw (f : List Byte) (s : State) : (writeRaw f s).raw = f := rfl
@[simp] theorem writeRaw_rawLen (f : List Byte) (s : State) : (writeRaw f s).rawLen = BitVec.ofNat 10 f.length := rfl
@[simp] theorem writeRaw_c16 (f : List Byte) (s : State) : (writeRaw f s).c16 = s.c16 := rfl
@[simp] theorem writeRaw_c8 (f : List Byte) (s : State) : (writeRaw f s).c8 = s.c8 := rfl
@[simp] theorem writeRaw_mode (f : List Byte) (s : State) : (writeRaw f s).mode = s.mode := rfl
@[simp] theorem writeRaw_changed (f : List Byte) (s : State) : (writeRaw f s).changed = s.changed := rfl
@[simp] theorem writeRaw_valid (f : List Byte) (s : State) : (writeRaw f s).valid = s.valid := rfl
@[simp] theorem writeRaw_err (f : List Byte) (s : State) : (writeRaw f s).err = s.err := rfl
@[simp] theorem writeRaw_port (f : List Byte) (s : State) : (writeRaw f s).port = s.port := rfl
@[simp] theorem writeRaw_rst (f : List Byte) (s : State) : (writeRaw f s).rst = s.rst := rfl

/-! markChanged -/

@[simp] theorem markChanged_version (s : State) : (markChanged s).version = s.version := rfl
@[simp] theorem markChanged_length (s : State) : (markChanged s).length = s.length := rfl
@[simp] theorem markChanged_hcrc (s : State) : (markChanged s).hcrc = s.hcrc := rfl
@[simp] theorem markChanged_srcRaw (s : State) : (markChanged s).srcRaw = s.srcRaw := rfl
@[simp] theorem markChanged_dstRaw (s : State) : (markChanged s).dstRaw = s.dstRaw := rfl
@[simp] theorem markChanged_srcType (s : State) : (markChanged s).srcType = s.srcType := rfl
@[simp] theorem markChanged_srcIndex (s : State) : (markChanged s).srcIndex = s.srcIndex := rfl
@[simp] theorem markChanged_dstType (s : State) : (markChanged s).dstType = s.dstType := rfl
@[simp] theorem markChanged_dstIndex (s : State) : (markChanged s).dstIndex = s.dstIndex := rfl
@[simp] theorem markChanged_seq (s : State) : (markChanged s).seq = s.seq := rfl
@[simp] theorem markChanged_ctRaw (s : State) : (markChanged s).ctRaw = s.ctRaw := rfl
@[simp] theorem markChanged_ctDir (s : State) : (markChanged s).ctDir = s.ctDir := rfl
@[simp] theorem markChanged_ctAck (s : State) : (markChanged s).ctAck = s.ctAck := rfl
@[simp] theorem markChanged_ctEnc (s : State) : (markChanged s).ctEnc = s.ctEnc := rfl
@[simp] theorem markChanged_cmdset (s : State) : (markChanged s).cmdset = s.cmdset := rfl
@[simp] theorem markChanged_cmd (s : State) : (markChanged s).cmd = s.cmd := rfl
@[simp] theorem markChanged_checksum (s : State) : (markChanged s).checksum = s.checksum := rfl
@[simp] theorem markChanged_pay (s : State) : (markChanged s).pay = s.pay := rfl
@[simp] theorem markChanged_payLen (s : State) : (markChanged s).payLen = s.payLen := rfl
@[simp] theorem markChanged_raw (s : State) : (markChanged s).raw = s.raw := rfl
@[simp] theorem markChanged_rawLen (s : State) : (markChanged s).rawLen = s.rawLen := rfl
@[simp] theorem markChanged_c16 (s : State) : (markChanged s).c16 = s.c16 := rfl
@[simp] theorem markChanged_c8 (s : State) : (markChanged s).c8 = s.c8 := rfl
@[simp] theorem markChanged_mode (s : State) : (markChanged s).mode = s.mode := rfl
@[simp] theorem markChanged_changed (s : State) : (markChanged s).changed = true := rfl
@[simp] theorem markChanged_valid (s : State) : (markChanged s).valid = s.valid := rfl
@[simp] theorem markChanged_err (s : State) : (markChanged s).err = s.err := rfl
@[simp] theorem markChanged_port (s : State) : (markChanged s).port = s.port := rfl
@[simp] theorem markChanged_rst (s : State) : (markChanged s).rst = s.rst := rfl

/-! construct -/

@[simp] theorem construct_version (m : Mode) (s : State) : (construct m s).version = s.version := rfl
@[simp] theorem construct_length (m : Mode) (s : State) : (construct m s).length = s.length := rfl
@[simp] theorem construct_hcrc (m : Mode) (s : State) : (construct m s).hcrc = s.hcrc := rfl
@[simp] theorem construct_srcRaw (m : Mode) (s : State) : (construct m s).srcRaw = s.srcRaw := rfl
@[simp] theorem construct_dstRaw (m : Mode) (s : State) : (construct m s).dstRaw = s.dstRaw := rfl
@[simp] theorem construct_srcType (m : Mode) (s : State) : (construct m s).srcType = s.srcType := rfl
@[simp] theorem construct_srcIndex (m : Mode) (s : State) : (construct m s).srcIndex = s.srcIndex := rfl
@[simp] theorem construct_dstType (m : Mode) (s : State) : (construct m s).dstType = s.dstType := rfl
@[simp] theorem construct_dstIndex (m : Mode) (s : State) : (construct m s).dstIndex = s.dstIndex := rfl
@[simp] theorem construct_seq (m : Mode) (s : State) : (construct m s).seq = s.seq := rfl
@[simp] theorem construct_ctRaw (m : Mode) (s : State) : (construct m s).ctRaw = s.ctRaw := rfl
@[simp] theorem construct_ctDir (m : Mode) (s : State) : (construct m s).ctDir = s.ctDir := rfl
@[simp] theorem construct_ctAck (m : Mode) (s : State) : (construct m s).ctAck = s.ctAck := rfl
@[simp] theorem construct_ctEnc (m : Mode) (s : State) : (construct m s).ctEnc = s.ctEnc := rfl
@[simp] theorem construct_cmdset (m : Mode) (s : State) : (construct m s).cmdset = s.cmdset := rfl
@[simp] theorem construct_cmd (m : Mode) (s : State) : (construct m s).cmd = s.cmd := rfl
@[simp] theorem construct_checksum (m : Mode) (s : State) : (construct m s).checksum = s.checksum := rfl
@[simp] theorem construct_pay (m : Mode) (s : State) : (construct m s).pay = s.pay := rfl
@[simp] theorem construct_payLen (m : Mode) (s : State) : (construct m s).payLen = s.payLen := rfl
@[simp] theorem construct_raw (m : Mode) (s : State) : (construct m s).raw = s.raw := rfl
@[simp] theorem construct_rawLen (m : Mode) (s : State) : (construct m s).rawLen = s.rawLen := rfl
@[simp] theorem construct_c16 (m : Mode) (s : State) : (construct m s).c16 = s.c16 := rfl
@[simp] theorem construct_c8 (m : Mode) (s : State) : (construct m s).c8 = s.c8 := rfl
@[simp] theorem construct_mode (m : Mode) (s : State) : (construct m s).mode = m := rfl
@[simp] theorem construct_changed (m : Mode) (s : State) : (construct m s).changed = false := rfl
@[simp] theorem construct_valid (m : Mode) (s : State) : (construct m s).valid = s.valid := rfl
@[simp] theorem construct_err (m : Mode) (s : State) : (construct m s).err = s.err := rfl
@[simp] theorem construct_port (m : Mode) (s : State) : (construct m s).port = s.port := rfl
@[simp] theorem construct_rst (m : Mode) (s : State) : (construct m s).rst = s.rst := rfl

/-! packSrc -/

@[simp] theorem packSrc_version (s : State) : (packSrc s).version = s.version := rfl
@[simp] theorem packSrc_length (s : State) : (packSrc s).length = s.length := rfl
@[simp] theorem packSrc_hcrc (s : State) : (packSrc s).hcrc = s.hcrc := rfl
@[simp] theorem packSrc_srcRaw (s : State) : (packSrc s).srcRaw = packAddress s.srcType s.srcIndex := rfl
@[simp] theorem packSrc_dstRaw (s : State) : (packSrc s).dstRaw = s.dstRaw := rfl
@[simp] theorem packSrc_srcType (s : State) : (packSrc s).srcType = s.srcType := rfl
@[simp] theorem packSrc_srcIndex (s : State) : (packSrc s).srcIndex = s.srcIndex := rfl
@[simp] theorem packSrc_dstType (s : State) : (packSrc s).dstType = s.dstType := rfl
@[simp] theorem packSrc_dstIndex (s : State) : (packSrc s).dstIndex = s.dstIndex := rfl
@[simp] theorem packSrc_seq (s : State) : (packSrc s).seq = s.seq := rfl
@[simp] theorem packSrc_ctRaw (s : State) : (packSrc s).ctRaw = s.ctRaw := rfl
@[simp] theorem packSrc_ctDir (s : State) : (packSrc s).ctDir = s.ctDir := rfl
@[simp] theorem packSrc_ctAck (s : State) : (packSrc s).ctAck = s.ctAck := rfl
@[simp] theorem packSrc_ctEnc (s : State) : (packSrc s).ctEnc = s.ctEnc := rfl
@[simp] theorem packSrc_cmdset (s : State) : (packSrc s).cmdset = s.cmdset := rfl
@[simp] theorem packSrc_cmd (s : State) : (packSrc s).cmd = s.cmd := rfl
@[simp] theorem packSrc_checksum (s : State) : (packSrc s).checksum = s.checksum := rfl
@[simp] theorem packSrc_pay (s : State) : (packSrc s).pay = s.pay := rfl
@[simp] theorem packSrc_payLen (s : State) : (packSrc s).payLen = s.payLen := rfl
@[simp] theorem packSrc_raw (s : State) : (packSrc s).raw = s.raw := rfl
@[simp] theorem packSrc_rawLen (s : State) : (packSrc s).rawLen = s.rawLen := rfl
@[simp] theorem packSrc_c16 (s : State) : (packSrc s).c16 = s.c16 := rfl
@[simp] theorem packSrc_c8 (s : State) : (packSrc s).c8 = s.c8 := rfl
@[simp] theorem packSrc_mode (s : State) : (packSrc s).mode = s.mode := rfl
@[simp] theorem packSrc_changed (s : State) : (packSrc s).changed = s.changed := rfl
@[simp] theorem packSrc_valid (s : State) : (packSrc s).valid = s.valid := rfl
@[simp] theorem packSrc_err (s : State) : (packSrc s).err = s.err := rfl
@[simp] theorem packSrc_port (s : State) : (packSrc s).port = s.port := rfl
@[simp] theorem packSrc_rst (s : State) : (packSrc s).rst = s.rst := rfl

/-! packDst -/

@[simp] theorem packDst_version (s : State) : (packDst s).version = s.version := rfl
@[simp] theorem packDst_length (s : State) : (packDst s).length = s.length := rfl
@[simp] theorem packDst_hcrc (s : State) : (packDst s).hcrc = s.hcrc := rfl
@[simp] theorem packDst_srcRaw (s : State) : (packDst s).srcRaw = s.srcRaw := rfl
@[simp] theorem packDst_dstRaw (s : State) : (packDst s).dstRaw = packAddress s.dstType s.dstIndex := rfl
@[simp] theorem packDst_srcType (s : State) : (packDst s).srcType = s.srcType := rfl
@[simp] theorem packDst_srcIndex (s : State) : (packDst s).srcIndex = s.srcIndex := rfl
@[simp] theorem packDst_dstType (s : State) : (packDst s).dstType = s.dstType := rfl
@[simp] theorem packDst_dstIndex (s : State) : (packDst s).dstIndex = s.dstIndex := rfl
@[simp] theorem packDst_seq (s : State) : (packDst s).seq = s.seq := rfl
@[simp] theorem packDst_ctRaw (s : State) : (packDst s).ctRaw = s.ctRaw := rfl
@[simp] theorem packDst_ctDir (s : State) : (packDst s).ctDir = s.ctDir := rfl
@[simp] theorem packDst_ctAck (s : State) : (packDst s).ctAck = s.ctAck := rfl
@[simp] theorem packDst_ctEnc (s : State) : (packDst s).ctEnc = s.ctEnc := rfl
@[simp] theorem packDst_cmdset (s : State) : (packDst s).cmdset = s.cmdset := rfl
@[simp] theorem packDst_cmd (s : State) : (packDst s).cmd = s.cmd := rfl
@[simp] theorem packDst_checksum (s : State) : (packDst s).checksum = s.checksum := rfl
@[simp] theorem packDst_pay (s : State) : (packDst s).pay = s.pay := rfl
@[simp] theorem packDst_payLen (s : State) : (packDst s).payLen = s.payLen := rfl
@[simp] theorem packDst_raw (s : State) : (packDst s).raw = s.raw := rfl
@[simp] theorem packDst_rawLen (s : State) : (packDst s).rawLen = s.rawLen := rfl
@[simp] theorem packDst_c16 (s : State) : (packDst s).c16 = s.c16 := rfl
@[simp] theorem packDst_c8 (s : State) : (packDst s).c8 = s.c8 := rfl
@[simp] theorem packDst_mode (s : State) : (packDst s).mode = s.mode := rfl
@[simp] theorem packDst_changed (s : State) : (packDst s).changed = s.changed := rfl
@[simp] theorem packDst_valid (s : State) : (packDst s).valid = s.valid := rfl
@[simp] theorem packDst_err (s : State) : (packDst s).err = s.err := rfl
@[simp] theorem packDst_port (s : State) : (packDst s).port = s.port := rfl
@[simp] theorem packDst_rst (s : State) : (packDst s).rst = s.rst := rfl

/-! packCt -/

@[simp] theorem packCt_version (s : State) : (packCt s).version = s.version := rfl
@[simp] theorem packCt_length (s : State) : (packCt s).length = s.length := rfl
@[simp] theorem packCt_hcrc (s : State) : (packCt s).hcrc = s.hcrc := rfl
@[simp] theorem packCt_srcRaw (s : State) : (packCt s).srcRaw = s.srcRaw := rfl
@[simp] theorem packCt_dstRaw (s : State) : (packCt s).dstRaw = s.dstRaw := rfl
@[simp] theorem packCt_srcType (s : State) : (packCt s).srcType = s.srcType := rfl
@[simp] theorem packCt_srcIndex (s : State) : (packCt s).srcIndex = s.srcIndex := rfl
@[simp] theorem packCt_dstType (s : State) : (packCt s).dstType = s.dstType := rfl
@[simp] theorem packCt_dstIndex (s : State) : (packCt s).dstIndex = s.dstIndex := rfl
@[simp] theorem packCt_seq (s : State) : (packCt s).seq = s.seq := rfl
@[simp] theorem packCt_ctRaw (s : State) : (packCt s).ctRaw = packCommandType s.ctDir s.ctAck s.ctEnc := rfl
@[simp] theorem packCt_ctDir (s : State) : (packCt s).ctDir = s.ctDir := rfl
@[simp] theorem packCt_ctAck (s : State) : (packCt s).ctAck = s.ctAck := rfl
@[simp] theorem packCt_ctEnc (s : State) : (packCt s).ctEnc = s.ctEnc := rfl
@[simp] theorem packCt_cmdset (s : State) : (packCt s).cmdset = s.cmdset := rfl
@[simp] theorem packCt_cmd (s : State) : (packCt s).cmd = s.cmd := rfl
@[simp] theorem packCt_checksum (s : State) : (packCt s).checksum = s.checksum := rfl
@[simp] theorem packCt_pay (s : State) : (packCt s).pay = s.pay := rfl
@[simp] theorem packCt_payLen (s : State) : (packCt s).payLen = s.payLen := rfl
@[simp] theorem packCt_raw (s : State) : (packCt s).raw = s.raw := rfl
@[simp] theorem packCt_rawLen (s : State) : (packCt s).rawLen = s.rawLen := rfl
@[simp] theorem packCt_c16 (s : State) : (packCt s).c16 = s.c16 := rfl
@[simp] theorem packCt_c8 (s : State) : (packCt s).c8 = s.c8 := rfl
@[simp] theorem packCt_mode (s : State) : (packCt s).mode = s.mode := rfl
@[simp] theorem packCt_changed (s : State) : (packCt s).changed = s.changed := rfl
@[simp] theorem packCt_valid (s : State) : (packCt s).valid = s.valid := rfl
@[simp] theorem packCt_err (s : State) : (packCt s).err = s.err := rfl
@[simp] theorem packCt_port (s : State) : (packCt s).port = s.port := rfl
@[simp] theorem packCt_rst (s : State) : (packCt s).rst = s.rst := rfl

/-! unpackSrc -/

@[simp] theorem unpackSrc_version (b : Byte) (s : State) : (unpackSrc b s).version = s.version := rfl
@[simp] theorem unpackSrc_length (b : Byte) (s : State) : (unpackSrc b s).length = s.length := rfl
@[simp] theorem unpackSrc_hcrc (b : Byte) (s : State) : (unpackSrc b s).hcrc = s.hcrc := rfl
@[simp] theorem unpackSrc_srcRaw (b : Byte) (s : State) : (unpackSrc b s).srcRaw = s.srcRaw := rfl
@[simp] theorem unpackSrc_dstRaw (b : Byte) (s : State) : (unpackSrc b s).dstRaw = s.dstRaw := rfl
@[simp] theorem unpackSrc_srcType (b : Byte) (s : State) : (unpackSrc b s).srcType = b.extractLsb' 0 5 := rfl
@[simp] theorem unpackSrc_srcIndex (b : Byte) (s : State) : (unpackSrc b s).srcIndex = b.extractLsb' 5 3 := rfl
@[simp] theorem unpackSrc_dstType (b : Byte) (s : State) : (unpackSrc b s).dstType = s.dstType := rfl
@[simp] theorem unpackSrc_dstIndex (b : Byte) (s : State) : (unpackSrc b s).dstIndex = s.dstIndex := rfl
@[simp] theorem unpackSrc_seq (b : Byte) (s : State) : (unpackSrc b s).seq = s.seq := rfl
@[simp] theorem unpackSrc_ctRaw (b : Byte) (s : State) : (unpackSrc b s).ctRaw = s.ctRaw := rfl
@[simp] theorem unpackSrc_ctDir (b : Byte) (s : State) : (unpackSrc b s).ctDir = s.ctDir := rfl
@[simp] theorem unpackSrc_ctAck (b : Byte) (s : State) : (unpackSrc b s).ctAck = s.ctAck := rfl
@[simp] theorem unpackSrc_ctEnc (b : Byte) (s : State) : (unpackSrc b s).ctEnc = s.ctEnc := rfl
@[simp] theorem unpackSrc_cmdset (b : Byte) (s : State) : (unpackSrc b s).cmdset = s.cmdset := rfl
@[simp] theorem unpackSrc_cmd (b : Byte) (s : State) : (unpackSrc b s).cmd = s.cmd := rfl
@[simp] theorem unpackSrc_checksum (b : Byte) (s : State) : (unpackSrc b s).checksum = s.checksum := rfl
@[simp] theorem unpackSrc_pay (b : Byte) (s : State) : (unpackSrc b s).pay = s.pay := rfl
@[simp] theorem unpackSrc_payLen (b : Byte) (s : State) : (unpackSrc b s).payLen = s.payLen := rfl
@[simp] theorem unpackSrc_raw (b : Byte) (s : State) : (unpackSrc b s).raw = s.raw := rfl
@[simp] theorem unpackSrc_rawLen (b : Byte) (s : State) : (unpackSrc b s).rawLen = s.rawLen := rfl
@[simp] theorem unpackSrc_c16 (b : Byte) (s : State) : (unpackSrc b s).c16 = s.c16 := rfl
@[simp] theorem unpackSrc_c8 (b : Byte) (s : State) : (unpackSrc b s).c8 = s.c8 := rfl
@[simp] theorem unpackSrc_mode (b : Byte) (s : State) : (unpackSrc b s).mode = s.mode := rfl
@[simp] theorem unpackSrc_changed (b : Byte) (s : State) : (unpackSrc b s).changed = s.changed := rfl
@[simp] theorem unpackSrc_valid (b : Byte) (s : State) : (unpackSrc b s).valid = s.valid := rfl
@[simp] theorem unpackSrc_err (b : Byte) (s : State) : (unpackSrc b s).err = s.err := rfl
@[simp] theorem unpackSrc_port (b : Byte) (s : State) : (unpackSrc b s).port = s.port := rfl
@[simp] theorem unpackSrc_rst (b : Byte) (s : State) : (unpackSrc b s).rst = s.rst := rfl

/-! unpackDst -/

@[simp] theorem unpackDst_version (b : Byte) (s : State) : (unpackDst b s).version = s.version := rfl
@[simp] theorem unpackDst_length (b : Byte) (s : State) : (unpackDst b s).length = s.length := rfl
@[simp] theorem unpackDst_hcrc (b : Byte) (s : State) : (unpackDst b s).hcrc = s.hcrc := rfl
@[simp] theorem unpackDst_srcRaw (b : Byte) (s : State) : (unpackDst b s).srcRaw = s.srcRaw := rfl
@[simp] theorem unpackDst_dstRaw (b : Byte) (s : State) : (unpackDst b s).dstRaw = s.dstRaw := rfl
@[simp] theorem unpackDst_srcType (b : Byte) (s : State) : (unpackDst b s).srcType = s.srcType := rfl
@[simp] theorem unpackDst_srcIndex (b : Byte) (s : State) : (unpackDst b s).srcIndex = s.srcIndex := rfl
@[simp] theorem unpackDst_dstType (b : Byte) (s : State) : (unpackDst b s).dstType = b.extractLsb' 0 5 := rfl
@[simp] theorem unpackDst_dstIndex (b : Byte) (s : State) : (unpackDst b s).dstIndex = b.extractLsb' 5 3 := rfl
@[simp] theorem unpackDst_seq (b : Byte) (s : State) : (unpackDst b s).seq = s.seq := rfl
@[simp] theorem unpackDst_ctRaw (b : Byte) (s : State) : (unpackDst b s).ctRaw = s.ctRaw := rfl
@[simp] theorem unpackDst_ctDir (b : Byte) (s : State) : (unpackDst b s).ctDir = s.ctDir := rfl
@[simp] theorem unpackDst_ctAck (b : Byte) (s : State) : (unpackDst b s).ctAck = s.ctAck := rfl
@[simp] theorem unpackDst_ctEnc (b : Byte) (s : State) : (unpackDst b s).ctEnc = s.ctEnc := rfl
@[simp] theorem unpackDst_cmdset (b : Byte) (s : State) : (unpackDst b s).cmdset = s.cmdset := rfl
@[simp] theorem unpackDst_cmd (b : Byte) (s : State) : (unpackDst b s).cmd = s.cmd := rfl
@[simp] theorem unpackDst_checksum (b : Byte) (s : State) : (unpackDst b s).checksum = s.checksum := rfl
@[simp] theorem unpackDst_pay (b : Byte) (s : State) : (unpackDst b s).pay = s.pay := rfl
@[simp] theorem unpackDst_payLen (b : Byte) (s : State) : (unpackDst b s).payLen = s.payLen := rfl
@[simp] theorem unpackDst_raw (b : Byte) (s : State) : (unpackDst b s).raw = s.raw := rfl
@[simp] theorem unpackDst_rawLen (b : Byte) (s : State) : (unpackDst b s).rawLen = s.rawLen := rfl
@[simp] theorem unpackDst_c16 (b : Byte) (s : State) : (unpackDst b s).c16 = s.c16 := rfl
@[simp] theorem unpackDst_c8 (b : Byte) (s : State) : (unpackDst b s).c8 = s.c8 := rfl
@[simp] theorem unpackDst_mode (b : Byte) (s : State) : (unpackDst b s).mode = s.mode := rfl
@[simp] theorem unpackDst_changed (b : Byte) (s : State) : (unpackDst b s).changed = s.changed := rfl
@[simp] theorem unpackDst_valid (b : Byte) (s : State) : (unpackDst b s).valid = s.valid := rfl
@[simp] theorem unpackDst_err (b : Byte) (s : State) : (unpackDst b s).err = s.err := rfl
@[simp] theorem unpackDst_port (b : Byte) (s : State) : (unpackDst b s).port = s.port := rfl
@[simp] theorem unpackDst_rst (b : Byte) (s : State) : (unpackDst b s).rst = s.rst := rfl

/-! unpackCt -/

@[simp] theorem unpackCt_version (b : Byte) (s : State) : (unpackCt b s).version = s.version := rfl
@[simp] theorem unpackCt_length (b : Byte) (s : State) : (unpackCt b s).length = s.length := rfl
@[simp] theorem unpackCt_hcrc (b : Byte) (s : State) : (unpackCt b s).hcrc = s.hcrc := rfl
@[simp] theorem unpackCt_srcRaw (b : Byte) (s : State) : (unpackCt b s).srcRaw = s.srcRaw := rfl
@[simp] theorem unpackCt_dstRaw (b : Byte) (s : State) : (unpackCt b s).dstRaw = s.dstRaw := rfl
@[simp] theorem unpackCt_srcType (b : Byte) (s : State) : (unpackCt b s).srcType = s.srcType := rfl
@[simp] theorem unpackCt_srcIndex (b : Byte) (s : State) : (unpackCt b s).srcIndex = s.srcIndex := rfl
@[simp] theorem unpackCt_dstType (b : Byte) (s : State) : (unpackCt b s).dstType = s.dstType := rfl
@[simp] theorem unpackCt_dstIndex (b : Byte) (s : State) : (unpackCt b s).dstIndex = s.dstIndex := rfl
@[simp] theorem unpackCt_seq (b : Byte) (s : State) : (unpackCt b s).seq = s.seq := rfl
@[simp] theorem unpackCt_ctRaw (b : Byte) (s : State) : (unpackCt b s).ctRaw = s.ctRaw := rfl
@[simp] theorem unpackCt_ctDir (b : Byte) (s : State) : (unpackCt b s).ctDir = b.extractLsb' 7 1 := rfl
@[simp] theorem unpackCt_ctAck (b : Byte) (s : State) : (unpackCt b s).ctAck = b.extractLsb' 5 2 := rfl
@[simp] theorem unpackCt_ctEnc (b : Byte) (s : State) : (unpackCt b s).ctEnc = b.extractLsb' 0 4 := rfl
@[simp] theorem unpackCt_cmdset (b : Byte) (s : State) : (unpackCt b s).cmdset = s.cmdset := rfl
@[simp] theorem unpackCt_cmd (b : Byte) (s : State) : (unpackCt b s).cmd = s.cmd := rfl
@[simp] theorem unpackCt_checksum (b : Byte) (s : State) : (unpackCt b s).checksum = s.checksum := rfl
@[simp] theorem unpackCt_pay (b : Byte) (s : State) : (unpackCt b s).pay = s.pay := rfl
@[simp] theorem unpackCt_payLen (b : Byte) (s : State) : (unpackCt b s).payLen = s.payLen := rfl
@[simp] theorem unpackCt_raw (b : Byte) (s : State) : (unpackCt b s).raw = s.raw := rfl
@[simp] theorem unpackCt_rawLen (b : Byte) (s : State) : (unpackCt b s).rawLen = s.rawLen := rfl
@[simp] theorem unpackCt_c16 (b : Byte) (s : State) : (unpackCt b s).c16 = s.c16 := rfl
@[simp] theorem unpackCt_c8 (b : Byte) (s : State) : (unpackCt b s).c8 = s.c8 := rfl
@[simp] theorem unpackCt_mode (b : Byte) (s : State) : (unpackCt b s).mode = s.mode := rfl
@[simp] theorem unpackCt_changed (b : Byte) (s : State) : (unpackCt b s).changed = s.changed := rfl
@[simp] theorem unpackCt_valid (b : Byte) (s : State) : (unpackCt b s).valid = s.valid := rfl
@[simp] theorem unpackCt_err (b : Byte) (s : State) : (unpackCt b s).err = s.err := rfl
@[simp] theorem unpackCt_port (b : Byte) (s : State) : (unpackCt b s).port = s.port := rfl
@[simp] theorem unpackCt_rst (b : Byte) (s : State) : (unpackCt b s).rst = s.rst := rfl

end Sys2Proof.Machine
end

