-- ==== Sys2Proof/Laws/Fields.lean ====
section
/-! SUPPORT. The field registers through their selectors: what is written is read back, no other register changes, and
no state but the field registers does. -/

namespace Sys2Proof.Machine

theorem getField_setField_same (f : Field) (v : Half) (s : State) (h : v.toNat < 2 ^ fieldWidth f) :
    getField f (setField f v s) = v := by
  cases f <;> simp only [fieldWidth] at h <;> apply BitVec.eq_of_toNat_eq <;>
    simp [getField, setField, BitVec.extractLsb'_toNat] <;> omega

theorem getField_setField_ne (f g : Field) (v : Half) (s : State) (h : g ≠ f) :
    getField g (setField f v s) = getField g s := by
  cases f <;> cases g <;> first | exact absurd rfl h | rfl

@[simp] theorem setField_pay (f : Field) (v : Half) (s : State) : (setField f v s).pay = s.pay := by cases f <;> rfl
@[simp] theorem setField_payLen (f : Field) (v : Half) (s : State) : (setField f v s).payLen = s.payLen := by
  cases f <;> rfl
@[simp] theorem setField_raw (f : Field) (v : Half) (s : State) : (setField f v s).raw = s.raw := by cases f <;> rfl
@[simp] theorem setField_rawLen (f : Field) (v : Half) (s : State) : (setField f v s).rawLen = s.rawLen := by
  cases f <;> rfl
@[simp] theorem setField_c16 (f : Field) (v : Half) (s : State) : (setField f v s).c16 = s.c16 := by cases f <;> rfl
@[simp] theorem setField_c8 (f : Field) (v : Half) (s : State) : (setField f v s).c8 = s.c8 := by cases f <;> rfl
@[simp] theorem setField_mode (f : Field) (v : Half) (s : State) : (setField f v s).mode = s.mode := by cases f <;> rfl
@[simp] theorem setField_changed (f : Field) (v : Half) (s : State) : (setField f v s).changed = s.changed := by
  cases f <;> rfl
@[simp] theorem setField_valid (f : Field) (v : Half) (s : State) : (setField f v s).valid = s.valid := by
  cases f <;> rfl
@[simp] theorem setField_err (f : Field) (v : Half) (s : State) : (setField f v s).err = s.err := by cases f <;> rfl
@[simp] theorem setField_port (f : Field) (v : Half) (s : State) : (setField f v s).port = s.port := by cases f <;> rfl
@[simp] theorem setField_rst (f : Field) (v : Half) (s : State) : (setField f v s).rst = s.rst := by cases f <;> rfl

/-- The operand check of WRF: it names a field exactly when the selector exists and the value fits. -/
theorem fieldOperand_eq_some (fsel : Byte) (v : Half) (f : Field) :
    fieldOperand fsel v = some f ↔ fieldOf fsel = some f ∧ v.toNat < 2 ^ fieldWidth f := by
  unfold fieldOperand
  cases fieldOf fsel with
  | none => simp
  | some g =>
    by_cases h : v.toNat < 2 ^ fieldWidth g
    · simp only [h, if_true, Option.some.injEq]
      exact ⟨fun e => ⟨e, e ▸ h⟩, fun e => e.1⟩
    · simp only [h, if_false, Option.some.injEq]
      exact ⟨fun e => by simp at e, fun e => absurd (e.1 ▸ e.2) h⟩

@[simp] theorem getField_raise (f : Field) (e : Err) (s : State) : getField f (raise e s) = getField f s := by
  cases f <;> rfl
@[simp] theorem getField_done (f : Field) (s : State) : getField f (done s) = getField f s := by cases f <;> rfl
@[simp] theorem getField_consume (f : Field) (rest : List Byte) (s : State) :
    getField f (consume rest s) = getField f s := by cases f <;> rfl
@[simp] theorem getField_markChanged (f : Field) (s : State) : getField f (markChanged s) = getField f s := by
  cases f <;> rfl
@[simp] theorem getField_construct (f : Field) (m : Mode) (s : State) : getField f (construct m s) = getField f s := by
  cases f <;> rfl
@[simp] theorem getField_writePay (f : Field) (p : List Byte) (s : State) :
    getField f (writePay p s) = getField f s := by cases f <;> rfl
@[simp] theorem getField_writeRaw (f : Field) (g : List Byte) (s : State) :
    getField f (writeRaw g s) = getField f s := by cases f <;> rfl

end Sys2Proof.Machine
end

