-- ==== Sys2Proof/Laws/Ops.lean ====
section
/-! SUPPORT. What each shared operation can do, said once: how an operation ends, the packet-present check, the prefix of
a store, that every memory operation keeps the form of the stores, and the reset input. -/

namespace Sys2Proof.Machine

@[simp] theorem endWith_eq (e : Err) (s : State) : endWith e s = .next (raise e s) := rfl

@[simp] theorem finish_eq (s : State) : finish s = .next (done s) := rfl

theorem raise_err_self (s : State) : raise s.err s = s := rfl

@[simp] theorem raise_raise (e e' : Err) (s : State) : raise e (raise e' s) = raise e s := rfl

@[simp] theorem raise_done (e : Err) (s : State) : raise e (done s) = raise e s := rfl

/-- A part of an operation, then `done`: it answers a next state only where the part does, `ERR` then being OK. -/
theorem thenFinish_next (r : Result) (t : State) : thenFinish r = .next t ↔ ∃ u, r = .next u ∧ t = done u := by
  cases r with
  | next u => simp [thenFinish, eq_comm]
  | fault x => simp [thenFinish]
  | refused x => simp [thenFinish]

theorem needPacket_absent (s : State) (body : Result) (h : s.rawLen = 0) :
    needPacket s body = .next (raise .noPacket s) :=
  if_pos h

theorem needPacket_present (s : State) (body : Result) (h : s.rawLen ≠ 0) : needPacket s body = body :=
  if_neg h

/-- An operation that needs a packet ends with `NoPacket`, or does what its body does. -/
theorem needPacket_next (s t : State) (body : Result) :
    needPacket s body = .next t ↔
      (s.rawLen = 0 ∧ t = raise .noPacket s) ∨ (s.rawLen ≠ 0 ∧ body = .next t) := by
  by_cases h : s.rawLen = 0
  · rw [needPacket_absent s body h]
    exact ⟨fun e => .inl ⟨h, (Host.Outcome.next.inj e).symm⟩,
      fun e => e.elim (fun e => congrArg _ e.2.symm) (fun e => absurd h e.1)⟩
  · rw [needPacket_present s body h]
    exact ⟨fun e => .inr ⟨h, e⟩, fun e => e.elim (fun e => absurd e.1 h) (fun e => e.2)⟩

/-! The stores. -/

theorem prefix_eq_some (store p : List Byte) (n : Nat) :
    Memory.prefix? store n = some p ↔ n ≤ store.length ∧ p = store.take n := by
  unfold Memory.prefix?
  split <;> simp_all [eq_comm]

theorem prefix_eq_none (store : List Byte) (n : Nat) : Memory.prefix? store n = none ↔ store.length < n := by
  unfold Memory.prefix?
  split <;> simp_all

@[simp] theorem read_append_left (a b : List Byte) (i : Nat) (h : i < a.length) :
    Memory.read (a ++ b) i = Memory.read a i := by
  simp [Memory.read, List.getElem?_append_left h]

/-- Two stores with the same bytes at every index are the same store. -/
theorem store_ext (a b : List Byte) (h : ∀ i, Memory.read a i = Memory.read b i) : a = b :=
  List.ext_getElem? h

/-- The payload SERIALISE reads is the whole payload store. -/
theorem wf_prefix_pay (s : State) (h : Memory.wf s) : Memory.prefix? s.pay s.payLen.toNat = some s.pay := by
  simp [prefix_eq_some, h.1]

theorem reset_wf : Memory.wf State.reset := by decide

/-- `PAY <- p` keeps the form of the stores, where `p` fits. -/
theorem writePay_wf (p : List Byte) (s : State) (hs : Memory.wf s) (hp : p.length ≤ maxPayload) :
    Memory.wf (writePay p s) := by
  obtain ⟨-, hr, -, hm⟩ := hs
  simp only [maxPayload] at hp
  refine ⟨?_, hr, hp, hm⟩
  simp only [writePay_payLen, writePay_pay, BitVec.toNat_ofNat]
  omega

/-- `RAW <- f` keeps the form of the stores, where `f` is a frame in length. -/
theorem writeRaw_wf (f : List Byte) (s : State) (hs : Memory.wf s) (hmin : minFrame ≤ f.length)
    (hmax : f.length ≤ 1023) : Memory.wf (writeRaw f s) := by
  obtain ⟨hp, -, hc, -⟩ := hs
  refine ⟨hp, ?_, hc, Or.inr hmin⟩
  simp only [writeRaw_rawLen, writeRaw_raw, BitVec.toNat_ofNat]
  omega

/-- The form of the stores depends on the stores and their lengths alone. -/
theorem wf_congr (s t : State) (h1 : t.pay = s.pay) (h2 : t.payLen = s.payLen) (h3 : t.raw = s.raw)
    (h4 : t.rawLen = s.rawLen) (hs : Memory.wf s) : Memory.wf t := by
  simpa only [Memory.wf, h1, h2, h3, h4] using hs

theorem raise_wf (e : Err) (s : State) (hs : Memory.wf s) : Memory.wf (raise e s) := hs

theorem consume_wf (rest : List Byte) (s : State) (hs : Memory.wf s) : Memory.wf (consume rest s) := hs

theorem heldInReset_wf : Memory.wf heldInReset := by decide

/-! The reset input. -/

@[simp] theorem hostSend_rst (bytes : List Byte) (s : State) : (hostSend bytes s).rst = s.rst := rfl

@[simp] theorem hostAssertReset_eq (s : State) : hostAssertReset s = heldInReset := rfl

theorem hostReleaseReset_of_asserted (s : State) (h : s.rst = true) : hostReleaseReset s = State.reset := if_pos h

theorem hostReleaseReset_of_released (s : State) (h : s.rst = false) : hostReleaseReset s = s := by
  simp [hostReleaseReset, h]

end Sys2Proof.Machine
end

