-- ==== Sys2Proof/Laws/Packet.lean ====
section
/-! SUPPORT. What SERIALISE, RECALC and the end of a field write can do, said once, and that each keeps the form of the
stores. -/

namespace Sys2Proof.Machine

@[simp] theorem frameBody_length (p : List Byte) (s : State) : (frameBody p s).length = 11 + p.length := by
  simp [frameBody, frameHead]
  omega

/-- The frame length SERIALISE computes is 13 plus the payload length, without overflow where the payload fits. -/
theorem frameLength_toNat (s : State) (h : s.payLen.toNat ≤ maxPayload) :
    (frameLength s).toNat = 13 + s.payLen.toNat := by
  simp only [maxPayload] at h
  simp only [frameLength, minFrame, BitVec.toNat_add, BitVec.toNat_ofNat]
  omega

@[simp] theorem serialiseWith_version (p : List Byte) (s : State) : (serialiseWith p s).version = s.version := rfl
@[simp] theorem serialiseWith_length (p : List Byte) (s : State) : (serialiseWith p s).length = frameLength s := by
  simp only [serialiseWith, writeRaw_length]
@[simp] theorem serialiseWith_hcrc (p : List Byte) (s : State) : (serialiseWith p s).hcrc = frameHcrc s := by
  simp only [serialiseWith, writeRaw_hcrc]
@[simp] theorem serialiseWith_srcRaw (p : List Byte) (s : State) : (serialiseWith p s).srcRaw = s.srcRaw := rfl
@[simp] theorem serialiseWith_dstRaw (p : List Byte) (s : State) : (serialiseWith p s).dstRaw = s.dstRaw := rfl
@[simp] theorem serialiseWith_srcType (p : List Byte) (s : State) : (serialiseWith p s).srcType = s.srcType := rfl
@[simp] theorem serialiseWith_srcIndex (p : List Byte) (s : State) : (serialiseWith p s).srcIndex = s.srcIndex := rfl
@[simp] theorem serialiseWith_dstType (p : List Byte) (s : State) : (serialiseWith p s).dstType = s.dstType := rfl
@[simp] theorem serialiseWith_dstIndex (p : List Byte) (s : State) : (serialiseWith p s).dstIndex = s.dstIndex := rfl
@[simp] theorem serialiseWith_seq (p : List Byte) (s : State) : (serialiseWith p s).seq = s.seq := rfl
@[simp] theorem serialiseWith_ctRaw (p : List Byte) (s : State) : (serialiseWith p s).ctRaw = s.ctRaw := rfl
@[simp] theorem serialiseWith_ctDir (p : List Byte) (s : State) : (serialiseWith p s).ctDir = s.ctDir := rfl
@[simp] theorem serialiseWith_ctAck (p : List Byte) (s : State) : (serialiseWith p s).ctAck = s.ctAck := rfl
@[simp] theorem serialiseWith_ctEnc (p : List Byte) (s : State) : (serialiseWith p s).ctEnc = s.ctEnc := rfl
@[simp] theorem serialiseWith_cmdset (p : List Byte) (s : State) : (serialiseWith p s).cmdset = s.cmdset := rfl
@[simp] theorem serialiseWith_cmd (p : List Byte) (s : State) : (serialiseWith p s).cmd = s.cmd := rfl
@[simp] theorem serialiseWith_checksum (p : List Byte) (s : State) : (serialiseWith p s).checksum = frameChecksum p s := by
  simp only [serialiseWith, writeRaw_checksum]
@[simp] theorem serialiseWith_pay (p : List Byte) (s : State) : (serialiseWith p s).pay = s.pay := rfl
@[simp] theorem serialiseWith_payLen (p : List Byte) (s : State) : (serialiseWith p s).payLen = s.payLen := rfl
@[simp] theorem serialiseWith_c16 (p : List Byte) (s : State) : (serialiseWith p s).c16 = frameChecksum p s := by
  simp only [serialiseWith, writeRaw_c16]
@[simp] theorem serialiseWith_c8 (p : List Byte) (s : State) : (serialiseWith p s).c8 = frameHcrc s := by
  simp only [serialiseWith, writeRaw_c8]
@[simp] theorem serialiseWith_mode (p : List Byte) (s : State) : (serialiseWith p s).mode = s.mode := rfl
@[simp] theorem serialiseWith_changed (p : List Byte) (s : State) : (serialiseWith p s).changed = s.changed := rfl
@[simp] theorem serialiseWith_valid (p : List Byte) (s : State) : (serialiseWith p s).valid = s.valid := rfl
@[simp] theorem serialiseWith_err (p : List Byte) (s : State) : (serialiseWith p s).err = s.err := rfl
@[simp] theorem serialiseWith_port (p : List Byte) (s : State) : (serialiseWith p s).port = s.port := rfl
@[simp] theorem serialiseWith_rst (p : List Byte) (s : State) : (serialiseWith p s).rst = s.rst := rfl
@[simp] theorem serialiseWith_raw (p : List Byte) (s : State) :
    (serialiseWith p s).raw = frameBody p s ++ [loByte (frameChecksum p s), hiByte (frameChecksum p s)] := rfl

/-- SERIALISE answers a next state exactly where every payload byte it reads exists. -/
theorem serialise_next (s t : State) :
    serialise s = .next t ↔
      s.payLen.toNat ≤ s.pay.length ∧ t = serialiseWith (s.pay.take s.payLen.toNat) s := by
  unfold serialise
  by_cases h : s.payLen.toNat ≤ s.pay.length
  · simp [(prefix_eq_some s.pay _ s.payLen.toNat).2 ⟨h, rfl⟩, h, eq_comm]
  · simp [(prefix_eq_none s.pay s.payLen.toNat).2 (by omega), h]

/-- With the stores in their form, SERIALISE lays out the whole payload. -/
theorem serialise_wf (s : State) (h : Memory.wf s) : serialise s = .next (serialiseWith s.pay s) := by
  rw [serialise_next]
  simp [h.1]

theorem serialiseWith_raw_length (p : List Byte) (s : State) : (serialiseWith p s).raw.length = 13 + p.length := by
  simp
  omega

/-- The frame SERIALISE lays out is as long as `LENGTH` and `RAWLEN` say, where the payload fits. -/
theorem serialiseWith_rawLen (p : List Byte) (s : State) (h : p.length ≤ maxPayload) :
    (serialiseWith p s).rawLen.toNat = 13 + p.length := by
  simp only [maxPayload] at h
  simp only [serialiseWith, writeRaw_rawLen, BitVec.toNat_ofNat, List.length_append, frameBody_length,
    List.length_cons, List.length_nil]
  omega

/-- SERIALISE keeps the form of the stores and leaves a packet present. -/
theorem serialiseWith_wf (s : State) (h : Memory.wf s) : Memory.wf (serialiseWith s.pay s) := by
  have hlen := serialiseWith_raw_length s.pay s
  have hp : s.pay.length ≤ 1010 := h.2.2.1
  refine writeRaw_wf _ _ ?_ ?_ ?_
  · exact wf_congr s _ rfl rfl rfl rfl h
  all_goals simp [minFrame]; try omega

/-- RECALC is SERIALISE after the three packings. -/
theorem recalc_next (s t : State) :
    recalc s = .next t ↔
      s.payLen.toNat ≤ s.pay.length ∧
        t = serialiseWith (s.pay.take s.payLen.toNat) (packCt (packDst (packSrc s))) :=
  serialise_next (packCt (packDst (packSrc s))) t

/-- The end of a field write: `CHANGED` set, then RECALC in auto mode alone. -/
theorem endWrite_next (s t : State) :
    endWrite s = .next t ↔
      (s.mode = .frozen ∧ t = done (markChanged s)) ∨
      (s.mode = .auto ∧ ∃ u, recalc (markChanged s) = .next u ∧ t = done u) := by
  unfold endWrite
  cases h : s.mode with
  | auto => simp [thenFinish_next]
  | frozen => simp [eq_comm]

/-- DECODE keeps the form of the stores. -/
theorem loadFrame_wf (m : Mode) (data : List Byte) (ver : BitVec 6) (len : BitVec 10) (hmin : 13 ≤ len.toNat)
    (hbuf : len.toNat ≤ data.length) (s : State) : Memory.wf (loadFrame m data ver len hmin hbuf s) := by
  have hlt := len.isLt
  refine ⟨?_, ?_, ?_, Or.inr ?_⟩ <;>
    simp [loadFrame, payloadOffset, maxPayload, minFrame] <;> omega

/-! DECODE. -/

theorem modeOperand_eq_some (m : Byte) (md : Mode) (h : modeOperand m = some md) :
    (Mode.code md).toNat = m.toNat := by
  unfold modeOperand at h
  split at h <;> rename_i hm <;> simp_all <;> subst h <;> rfl

theorem modeOperand_eq_none (m : Byte) (h : 1 < m.toNat) : modeOperand m = none := by
  unfold modeOperand
  split <;> simp_all

theorem wordLength_toNat (lo hi : Byte) :
    (wordLength (word16 lo hi)).toNat = lo.toNat + 256 * (hi.toNat % 4) := by
  have := lo.isLt
  simp [wordLength, BitVec.extractLsb'_toNat, word16_toNat]
  omega

theorem wordVersion_toNat (lo hi : Byte) : (wordVersion (word16 lo hi)).toNat = hi.toNat / 4 := by
  have := lo.isLt
  have := hi.isLt
  simp only [wordVersion, BitVec.extractLsb'_toNat, word16_toNat, Nat.shiftRight_eq_div_pow]
  omega

/-- DECODE ends with one of its five errors, or with the frame at the head of its operand loaded. -/
theorem execDecode_next (m : Byte) (data : List Byte) (s t : State) (h : execDecode m data s = .next t) :
    (∃ e ∈ [Err.badOperand, .tooSmall, .badMagic, .lengthExceedsBuffer, .lengthBelowMinimum], t = raise e s) ∨
    ∃ (md : Mode) (h13 : 13 ≤ data.length) (hbuf : (declaredLength data h13).toNat ≤ data.length)
      (hmin : 13 ≤ (declaredLength data h13).toNat),
      modeOperand m = some md ∧ data[0] = magic ∧
        t = done (loadFrame md data (declaredVersion data h13) (declaredLength data h13) hmin hbuf s) := by
  unfold execDecode at h
  split at h
  · exact .inl ⟨.badOperand, by decide, (Host.Outcome.next.inj h).symm⟩
  · rename_i md hmd
    split at h
    · rename_i hn
      unfold decodeFramed at h
      split at h
      · exact .inl ⟨.badMagic, by decide, (Host.Outcome.next.inj h).symm⟩
      · rename_i h0
        split at h
        · rename_i hbuf
          split at h
          · rename_i hmin
            exact .inr ⟨md, hn, hbuf, hmin, hmd, by simpa using h0, (Host.Outcome.next.inj h).symm⟩
          · exact .inl ⟨.lengthBelowMinimum, by decide, (Host.Outcome.next.inj h).symm⟩
        · exact .inl ⟨.lengthExceedsBuffer, by decide, (Host.Outcome.next.inj h).symm⟩
    · exact .inl ⟨.tooSmall, by decide, (Host.Outcome.next.inj h).symm⟩

end Sys2Proof.Machine
end

