-- ==== Sys2Proof/Laws/PerInstr.lean ====
section
/-! SUPPORT. A law of every operation as syntax, one lemma per constructor: its command begins with the operation code
the table gives it and has the length the table gives it (spec/30_encoding.md R72, R73, the width notes of
spec/opcode_table.json). -/

namespace Sys2Proof.Laws

/-- The operation code and the command length of the table's row: 1, 2 or 4 bytes, or 3, 4 or 16 and the operand. -/
def CommandShape.row : Instr → Nat × Nat
  | .c16init => (0x10, 1)
  | .c16upd _ => (0x11, 2)
  | .c16blk data => (0x12, 3 + data.length)
  | .c8init => (0x18, 1)
  | .c8upd _ => (0x19, 2)
  | .c8blk data => (0x1A, 3 + data.length)
  | .pksrc => (0x20, 1)
  | .upksrc => (0x21, 1)
  | .pkdst => (0x22, 1)
  | .upkdst => (0x23, 1)
  | .pkct => (0x24, 1)
  | .upkct => (0x25, 1)
  | .decode _ data => (0x40, 4 + data.length)
  | .validate => (0x41, 1)
  | .encode => (0x42, 1)
  | .new a => (0x43, 16 + a.payload.length)
  | .wrf _ _ => (0x50, 4)
  | .wrpay data => (0x51, 3 + data.length)
  | .wrraw data => (0x5F, 3 + data.length)

/-- The command of `i` begins with its row's operation code and has its row's length. -/
def CommandShape.Statement (i : Instr) : Prop :=
  (Sys2Proof.encode i).head?.map BitVec.toNat = some (row i).1 ∧ (Sys2Proof.encode i).length = (row i).2

theorem CommandShape.c16init : Statement .c16init := ⟨rfl, rfl⟩

theorem CommandShape.c16upd (b : Byte) : Statement (.c16upd b) := ⟨rfl, rfl⟩

theorem CommandShape.c16blk (data : List Byte) : Statement (.c16blk data) :=
  ⟨rfl, by simp [Sys2Proof.encode, encodeOperands, row]; omega⟩

theorem CommandShape.c8init : Statement .c8init := ⟨rfl, rfl⟩

theorem CommandShape.c8upd (b : Byte) : Statement (.c8upd b) := ⟨rfl, rfl⟩

theorem CommandShape.c8blk (data : List Byte) : Statement (.c8blk data) :=
  ⟨rfl, by simp [Sys2Proof.encode, encodeOperands, row]; omega⟩

theorem CommandShape.pksrc : Statement .pksrc := ⟨rfl, rfl⟩

theorem CommandShape.upksrc : Statement .upksrc := ⟨rfl, rfl⟩

theorem CommandShape.pkdst : Statement .pkdst := ⟨rfl, rfl⟩

theorem CommandShape.upkdst : Statement .upkdst := ⟨rfl, rfl⟩

theorem CommandShape.pkct : Statement .pkct := ⟨rfl, rfl⟩

theorem CommandShape.upkct : Statement .upkct := ⟨rfl, rfl⟩

theorem CommandShape.decode (m : Byte) (data : List Byte) : Statement (.decode m data) :=
  ⟨rfl, by simp [Sys2Proof.encode, encodeOperands, row]; omega⟩

theorem CommandShape.validate : Statement .validate := ⟨rfl, rfl⟩

theorem CommandShape.encode : Statement .encode := ⟨rfl, rfl⟩

theorem CommandShape.new (a : NewArgs) : Statement (.new a) :=
  ⟨rfl, by simp [Sys2Proof.encode, encodeOperands, row]; omega⟩

theorem CommandShape.wrf (fsel : Byte) (v : Half) : Statement (.wrf fsel v) := ⟨rfl, rfl⟩

theorem CommandShape.wrpay (data : List Byte) : Statement (.wrpay data) :=
  ⟨rfl, by simp [Sys2Proof.encode, encodeOperands, row]; omega⟩

theorem CommandShape.wrraw (data : List Byte) : Statement (.wrraw data) :=
  ⟨rfl, by simp [Sys2Proof.encode, encodeOperands, row]; omega⟩

end Sys2Proof.Laws
end

