-- ==== Sys2Proof/Tests/Slice0.lean ====
section
/-! SUPPORT. The model's own tests. Expected values are the spec's worked examples (spec/95_test_vectors.md, whose ids the
comments name) or are written out from its encodings; then, for every statement with hypotheses, a witness that
meets them. -/

namespace Sys2Proof.Tests

open Sys2Proof.Machine

/- One theorem after another: each kernel evaluation would otherwise hold a thread of its own. -/
set_option Elab.async false

/-! ### Helpers -/

/-- The frame F of 95_test_vectors.md (D0's one vector). -/
def frameF : List Byte := [0x55, 0x0E, 0x04, 0x66, 0x2A, 0x28, 0xDE, 0x2F, 0x40, 0x00, 0x5B, 0x01, 0xA5, 0x3A]

/-- F with its last byte changed: a wrong whole-packet checksum (S7). -/
def frameBad : List Byte := [0x55, 0x0E, 0x04, 0x66, 0x2A, 0x28, 0xDE, 0x2F, 0x40, 0x00, 0x5B, 0x01, 0xA5, 0x3B]

/-- The frame G: F with bit 4 of the command-type byte set and the matching checksum (P4). -/
def frameG : List Byte := [0x55, 0x0E, 0x04, 0x66, 0x2A, 0x28, 0xDE, 0x2F, 0x50, 0x00, 0x5B, 0x01, 0x04, 0xF9]

/-- The operands of NEW that build F (S8). -/
def newF : NewArgs :=
  { m := 0, version := 1, srcType := 10, srcIndex := 1, dstType := 8, dstIndex := 1, seq := 0xDE2F, dir := 0, ack := 2,
    enc := 0, cmdset := 0x00, cmd := 0x5B, payload := [0x01] }

/-- Whether a result is a next state. -/
def isNext : Result → Bool
  | .next _ => true
  | .fault _ => false
  | .refused _ => false

/-- The next state of a result, the reset state where there is none. -/
def stateOf : Result → State
  | .next s => s
  | .fault _ => State.reset
  | .refused _ => State.reset

theorem eq_next_of_isNext (r : Result) (h : isNext r = true) : r = .next (stateOf r) := by
  cases r with
  | next s => rfl
  | fault x => exact Bool.noConfusion h
  | refused x => exact Bool.noConfusion h

/-- The state after one operation. -/
def after (i : Instr) (s : State) : State := stateOf (exec i s)

/-- The state after one step on command bytes sent to a block just reset. -/
def afterBytes (bytes : List Byte) : State := stateOf (step (hostSend bytes State.reset))

/-- A block that has decoded F in the mode `m`. -/
def decodedF (m : Byte) : State := after (.decode m frameF) State.reset

/-- A block waiting for a command, with these bytes on its port. -/
def waiting (bytes : List Byte) : State := hostSend bytes State.reset

/-! ### WellFormed: each operation with a byte sequence, one byte too long -/

/-- 65536 bytes of zero: one more than a byte-sequence operand can have. -/
def tooLong : List Byte := List.replicate 65536 0

theorem length_tooLong : tooLong.length = 65536 := List.length_replicate

/-- 65535 bytes of zero: the longest byte-sequence operand. -/
def longest : List Byte := List.replicate 65535 0

theorem length_longest : longest.length = 65535 := List.length_replicate

theorem test_wellFormed_c16blk : ¬ (Instr.c16blk tooLong).wellFormed := by
  simp [Instr.wellFormed, Instr.operandBytes, length_tooLong, inMax]

theorem test_wellFormed_c8blk : ¬ (Instr.c8blk tooLong).wellFormed := by
  simp [Instr.wellFormed, Instr.operandBytes, length_tooLong, inMax]

theorem test_wellFormed_decode : ¬ (Instr.decode 0 tooLong).wellFormed := by
  simp [Instr.wellFormed, Instr.operandBytes, length_tooLong, inMax]

theorem test_wellFormed_new : ¬ (Instr.new { newF with payload := tooLong }).wellFormed := by
  simp [Instr.wellFormed, Instr.operandBytes, length_tooLong, inMax]

theorem test_wellFormed_wrpay : ¬ (Instr.wrpay tooLong).wellFormed := by
  simp [Instr.wellFormed, Instr.operandBytes, length_tooLong, inMax]

theorem test_wellFormed_wrraw : ¬ (Instr.wrraw tooLong).wellFormed := by
  simp [Instr.wellFormed, Instr.operandBytes, length_tooLong, inMax]

theorem test_wellFormed_longest : (Instr.wrraw longest).wellFormed := by
  simp [Instr.wellFormed, Instr.operandBytes, length_longest, inMax]

/-! ### Decoding: every constructor, from a command written out from R72 and R73 -/

theorem test_decode_c16init : decode [0x10] = .instr .c16init [] := by decide
theorem test_decode_c16upd : decode [0x11, 0x55, 0x11] = .instr (.c16upd 0x55) [0x11] := by decide
theorem test_decode_c16blk : decode [0x12, 0x02, 0x00, 0xAA, 0xBB, 0x10] = .instr (.c16blk [0xAA, 0xBB]) [0x10] := by
  decide
theorem test_decode_c8init : decode [0x18] = .instr .c8init [] := by decide
theorem test_decode_c8upd : decode [0x19, 0x0E] = .instr (.c8upd 0x0E) [] := by decide
theorem test_decode_c8blk : decode [0x1A, 0x03, 0x00, 0x55, 0x0E, 0x04] = .instr (.c8blk [0x55, 0x0E, 0x04]) [] := by
  decide
theorem test_decode_pksrc : decode [0x20] = .instr .pksrc [] := by decide
theorem test_decode_upksrc : decode [0x21] = .instr .upksrc [] := by decide
theorem test_decode_pkdst : decode [0x22] = .instr .pkdst [] := by decide
theorem test_decode_upkdst : decode [0x23] = .instr .upkdst [] := by decide
theorem test_decode_pkct : decode [0x24] = .instr .pkct [] := by decide
theorem test_decode_upkct : decode [0x25] = .instr .upkct [] := by decide
theorem test_decode_decode : decode ([0x40, 0x01, 0x0E, 0x00] ++ frameF) = .instr (.decode 1 frameF) [] := by decide
theorem test_decode_validate : decode [0x41] = .instr .validate [] := by decide
theorem test_decode_encode : decode [0x42, 0x24] = .instr .encode [0x24] := by decide
/-- S8: the sequence ID is low byte first in the command. -/
theorem test_decode_new : decode [0x43, 0x00, 0x01, 0x0A, 0x01, 0x08, 0x01, 0x2F, 0xDE, 0x00, 0x02, 0x00, 0x00, 0x5B,
    0x01, 0x00, 0x01] = .instr (.new newF) [] := by decide
theorem test_decode_wrf : decode [0x50, 0x01, 0xFF, 0x03] = .instr (.wrf 0x01 0x03FF) [] := by decide
theorem test_decode_wrpay : decode [0x51, 0x00, 0x00] = .instr (.wrpay []) [] := by decide
theorem test_decode_wrraw : decode [0x5F, 0x03, 0x00, 0x01, 0x02, 0x03] = .instr (.wrraw [0x01, 0x02, 0x03]) [] := by
  decide
theorem test_decode_illegal : decode [0x13, 0x10] = .illegalOp 0x13 [0x10] ∧ decode [0x00] = .illegalOp 0x00 [] ∧
    decode [0xFF] = .illegalOp 0xFF [] := by decide
theorem test_decode_incomplete : decode [] = .incomplete ∧ decode [0x50, 0x01, 0xFF] = .incomplete ∧
    decode [0x12, 0x02, 0x00, 0xAA] = .incomplete := by decide
/-- Every operation code of R73 with zeros after it is a whole command, and runs as the first one after reset. -/
theorem test_table_words :
    [0x10, 0x11, 0x12, 0x18, 0x19, 0x1A, 0x20, 0x21, 0x22, 0x23, 0x24, 0x25, 0x40, 0x41, 0x42, 0x43, 0x50, 0x51,
      0x5F].all (fun w => (decodeTableWord 8 w).isSome && isNext (step (State.reset.withFetchWord 8 w))) = true := by
  decide +kernel

/-! ### Units U1 and U2 -/

theorem test_c16init : (after .c16init { State.reset with c16 := 0x1234 }).c16 = 0x3692 := by decide
/-- R91, worked step. -/
theorem test_c16upd : (after (.c16upd 0x55) State.reset).c16 = 0xB285 := by decide +kernel
/-- 2.1, single steps. -/
theorem test_c16upd_steps : crc16Step fiu 0x0001 0x00 = 0x1189 ∧ crc16Step fiu 0x8000 0x00 = 0x0080 ∧
    crc16Step fiu 0x1234 0xAB = 0x6C6C := by decide +kernel
/-- K11 and K1: the block checksum does not use the old `C16`. -/
theorem test_c16blk : (after (.c16blk (frameF.take 12)) State.reset).c16 = 0x3AA5 ∧
    (after (.c16blk []) { State.reset with c16 := 0x1234 }).c16 = 0x3692 := by decide +kernel
/-- K12: the residue. -/
theorem test_c16blk_residue : (after (.c16blk frameF) State.reset).c16 = 0x0000 := by decide +kernel
theorem test_c8init : (after .c8init { State.reset with c8 := 0x12 }).c8 = 0x77 := by decide
/-- R111, worked step, and a single step of 2.2. -/
theorem test_c8upd : (after (.c8upd 0x55) State.reset).c8 = 0x9F ∧ crc8Step fiu 0x12 0xAB = 0xAE := by decide +kernel
/-- H8, H16. -/
theorem test_c8blk : (after (.c8blk [0x55, 0x0E, 0x04]) State.reset).c8 = 0x66 ∧
    (after (.c8blk [0x55, 0xFF, 0x07]) State.reset).c8 = 0xD9 := by decide +kernel

/-! ### Unit U3, on a frozen packet (2.3) -/

/-- Steps 2 to 4: type 3, index 5. -/
theorem test_pksrc : (after .pksrc { decodedF 1 with srcType := 3, srcIndex := 5 }).srcRaw = 0xA3 := by decide +kernel
theorem test_upksrc : (after .upksrc { decodedF 1 with srcRaw := 0x2B }).srcType = 11 := by decide +kernel
theorem test_pkdst : (after .pkdst { decodedF 1 with dstType := 31, dstIndex := 0 }).dstRaw = 0x1F := by decide +kernel
/-- Steps 5 and 6. -/
theorem test_upkdst : (after .upkdst { decodedF 1 with dstRaw := 0xE1 }).dstType = 1 ∧
    (after .upkdst { decodedF 1 with dstRaw := 0xE1 }).dstIndex = 7 := by decide +kernel
/-- T2: the largest byte a pack makes. -/
theorem test_pkct : (after .pkct { decodedF 1 with ctDir := 1, ctAck := 3, ctEnc := 15 }).ctRaw = 0xEF := by
  decide +kernel
/-- Steps 7 and 8: bit 4 is read by nothing. -/
theorem test_upkct : (after .upkct { decodedF 1 with ctRaw := 0xB7 }).ctDir = 1 ∧
    (after .upkct { decodedF 1 with ctRaw := 0xB7 }).ctAck = 1 ∧
    (after .upkct { decodedF 1 with ctRaw := 0xB7 }).ctEnc = 7 := by decide +kernel

/-! ### Unit U4 -/

/-- S1. -/
theorem test_decode_fields : (decodedF 0).version = 1 ∧ (decodedF 0).length = 14 ∧ (decodedF 0).seq = 0xDE2F ∧
    (decodedF 0).checksum = 0x3AA5 ∧ (decodedF 0).pay = [0x01] ∧ (decodedF 0).c16 = 0x3692 := by decide +kernel
/-- P3, P7: trailing bytes dropped; a declared length of 12. -/
theorem test_decode_lengths : (after (.decode 0 (frameF ++ [0xDE, 0xAD])) State.reset).raw = frameF ∧
    (after (.decode 0 ([0x55, 0x0C, 0x04] ++ List.replicate 10 0)) State.reset).err = .lengthBelowMinimum := by
  decide +kernel
/-- S1, S7: a wrong checksum is a result, not an error. -/
theorem test_validate : (after .validate (decodedF 0)).valid = true ∧
    (after .validate (after (.decode 0 frameBad) State.reset)).valid = false ∧
    (after .validate (after (.decode 0 frameBad) State.reset)).err = .ok := by decide +kernel
/-- M28: VALIDATE compares with the registers, not with the bytes of `RAW`. -/
theorem test_validate_registers : (after .validate (after (.wrf 0x02 0x67) (decodedF 1))).valid = false := by
  decide +kernel
/-- R153, example. -/
theorem test_encode : (after .encode (after (.decode 0 frameBad) State.reset)).raw = frameF := by decide +kernel
/-- P4: ENCODE does not pack. -/
theorem test_encode_bit4 : (after .encode (after (.decode 0 frameG) State.reset)).raw = frameG := by decide +kernel
/-- S8. -/
theorem test_new : (after (.new newF) State.reset).raw = frameF := by decide +kernel
/-- 2.6: the operand check comes before the mode check. -/
theorem test_new_errors : (after (.new { newF with m := 1 }) State.reset).err = .refused ∧
    (after (.new { newF with m := 1, srcIndex := 8 }) State.reset).err = .badOperand := by decide +kernel

/-! ### Unit U5 -/

/-- S2, M11. -/
theorem test_wrf_auto : (after (.wrf 0x06 2) (decodedF 0)).raw =
      [0x55, 0x0E, 0x04, 0x66, 0x4A, 0x28, 0xDE, 0x2F, 0x40, 0x00, 0x5B, 0x01, 0xA4, 0xE9] ∧
    (after (.wrf 0x09 0x0001) (decodedF 0)).raw =
      [0x55, 0x0E, 0x04, 0x66, 0x2A, 0x28, 0x00, 0x01, 0x40, 0x00, 0x5B, 0x01, 0xED, 0x47] := by decide +kernel
/-- S5. -/
theorem test_wrf_frozen : (after (.wrf 0x03 0x4A) (decodedF 1)).srcRaw = 0x4A ∧
    (after (.wrf 0x03 0x4A) (decodedF 1)).raw = frameF ∧ (after (.wrf 0x03 0x4A) (decodedF 1)).srcIndex = 1 := by
  decide +kernel
/-- M22, M20. -/
theorem test_wrpay_auto : (after (.wrpay [0x01, 0x02, 0x03]) (decodedF 0)).raw =
      [0x55, 0x10, 0x04, 0x56, 0x2A, 0x28, 0xDE, 0x2F, 0x40, 0x00, 0x5B, 0x01, 0x02, 0x03, 0x2C, 0xB7] ∧
    (after (.wrpay []) (decodedF 0)).raw =
      [0x55, 0x0D, 0x04, 0x33, 0x2A, 0x28, 0xDE, 0x2F, 0x40, 0x00, 0x5B, 0x0B, 0xA3] := by decide +kernel
/-- M27. -/
theorem test_wrpay_frozen : (after (.wrpay [0x09, 0x09, 0x09]) (decodedF 1)).payLen = 3 ∧
    (after (.wrpay [0x09, 0x09, 0x09]) (decodedF 1)).raw = frameF := by decide +kernel
/-- S4. -/
theorem test_wrraw : after (.wrraw frameF) (decodedF 1) = { decodedF 1 with err := .immutableRawBuffer } ∧
    (after (.wrraw [0x01]) State.reset).err = .immutableRawBuffer := by decide +kernel

/-! ### Steps and the host side -/

/-- 2.6: an illegal byte is consumed alone. -/
theorem test_step_illegal : afterBytes [0x13, 0x10] = { State.reset with port := [0x10], err := .illegalOp } := by
  decide +kernel
/-- R71: an unfinished command is left on the port. -/
theorem test_step_waits : afterBytes [0x11] = waiting [0x11] := by decide +kernel
/-- R230; bytes sent while the reset input is asserted are gone after the release. -/
theorem test_step_reset : stateOf (step { decodedF 1 with rst := true }) = heldInReset ∧
    hostReleaseReset (hostSend [0x41] (hostAssertReset (decodedF 1))) = State.reset := by decide +kernel
/-- 2.6, host-side. -/
theorem test_decodeHex :
    hexBytes ['5', '5', '0', 'e', '0', '4', '6', '6', '2', 'A'] = some [0x55, 0x0E, 0x04, 0x66, 0x2A] ∧
    hexBytes ['5', '5', '0', 'E', '0'] = none ∧ hexBytes ['5', '5', ' ', '0', 'E', '0'] = none ∧
    hexBytes ['0', 'x', '5', '5'] = none ∧ hexBytes [] = some [] := by decide +kernel
theorem test_hexString : hexString .lower [0x55, 0x0E] = ['5', '5', '0', 'e'] ∧
    hexString .upper [0x55, 0x0E] = ['5', '5', '0', 'E'] := by decide +kernel

/-! ### Witnesses: for each statement with hypotheses, a state and operands that meet them, clause by clause -/

theorem test_witness_DecodeOfEncodeGivesOperation : (Instr.new newF).wellFormed ∧
    (Instr.decode 0xFF longest).wellFormed := by
  simp [Instr.wellFormed, Instr.operandBytes, newF, length_longest, inMax]

theorem test_witness_DecodeConsumesExactlyOneCommand :
    decode [0x50, 0x01, 0xFF, 0x03, 0x41] = .instr (.wrf 0x01 0x03FF) [0x41] := by decide

theorem test_witness_IllegalCodeIsConsumedAlone : (waiting [0x60, 0x10]).rst = false ∧
    (waiting [0x60, 0x10]).port = 0x60 :: [0x10] ∧
    (0x60 : Byte).toNat ∉ [0x10, 0x11, 0x12, 0x18, 0x19, 0x1A, 0x20, 0x21, 0x22, 0x23, 0x24, 0x25, 0x40, 0x41, 0x42, 0x43,
      0x50, 0x51, 0x5F] := by decide

/-- No byte of the command has come, and all but the last. -/
theorem test_witness_UnfinishedCommandWaits : (waiting []).rst = false ∧ (Instr.wrpay [0x01]).wellFormed ∧
    0 < (encode (.wrpay [0x01])).length ∧ (waiting []).port = (encode (.wrpay [0x01])).take 0 ∧
    3 < (encode (.wrpay [0x01])).length ∧ (waiting [0x51, 0x01, 0x00]).port = (encode (.wrpay [0x01])).take 3 := by
  decide

theorem test_witness_StepPerformsDecodedOperation : (waiting [0x11, 0x55, 0x41]).rst = false ∧
    decode (waiting [0x11, 0x55, 0x41]).port = .instr (.c16upd 0x55) [0x41] ∧ (Instr.c16upd 0x55).wellFormed ∧
    (waiting [0x11, 0x55, 0x41]).port = encode (.c16upd 0x55) ++ [0x41] := by decide

theorem test_witness_OperationsLeaveInputsAlone :
    exec .validate (decodedF 0) = .next (after .validate (decodedF 0)) :=
  eq_next_of_isNext _ (by decide +kernel)

theorem test_witness_ResetInputHoldsTheBlock : ({ decodedF 1 with rst := true } : State).rst = true := by decide

theorem test_witness_SourceAddressOperations :
    State.reset.rawLen = 0 ∧ (decodedF 0).rawLen ≠ 0 ∧ (decodedF 1).rawLen ≠ 0 := by decide +kernel

theorem test_witness_DestinationAddressOperations :
    (after (.c16upd 0) State.reset).rawLen = 0 ∧ (decodedF 0).rawLen ≠ 0 := by decide +kernel

theorem test_witness_CommandTypeOperations :
    (after .encode State.reset).rawLen = 0 ∧ (after (.decode 1 frameG) State.reset).rawLen ≠ 0 := by decide +kernel

/-- Each check at the value where it first fails: mode 2; 12 bytes; another first byte; declared length one above the
operand's; declared length 12. -/
theorem test_witness_DecodeChecksInOrder :
    1 < (2 : Byte).toNat ∧
    ((1 : Byte).toNat ≤ 1 ∧ (List.replicate 12 (0x55 : Byte)).length < 13) ∧
    (13 ≤ (List.replicate 13 (0x54 : Byte)).length ∧ (List.replicate 13 (0x54 : Byte))[0]? ≠ some 0x55) ∧
    (13 ≤ (frameF.take 13).length ∧ (frameF.take 13)[0]? = some 0x55 ∧ (frameF.take 13)[1]? = some 0x0E ∧
      (frameF.take 13)[2]? = some 0x04 ∧
      (frameF.take 13).length < (0x0E : Byte).toNat + 256 * ((0x04 : Byte).toNat % 4)) ∧
    (([0x55, 0x0C, 0x04] ++ List.replicate 10 0 : List Byte)[1]? = some 0x0C ∧
      (0x0C : Byte).toNat + 256 * ((0x04 : Byte).toNat % 4) ≤ ([0x55, 0x0C, 0x04] ++ List.replicate 10 0 : List Byte).length ∧
      (0x0C : Byte).toNat + 256 * ((0x04 : Byte).toNat % 4) < 13) := by decide

/-- The smallest payload and the largest. -/
theorem test_witness_DecodeLoadsTheFrame : (1 : Byte).toNat ≤ 1 ∧
    (0x0D : Byte).toNat + 256 * ((0xFC : Byte).toNat % 4) = 13 + ([] : List Byte).length ∧
    (0xFF : Byte).toNat + 256 * ((0x07 : Byte).toNat % 4) = 13 + (List.replicate 1010 (0 : Byte)).length := by
  decide +kernel

theorem test_witness_DecodeIgnoresTheOldPacket :
    exec (.decode 1 frameG) State.reset = .next (after (.decode 1 frameG) State.reset) ∧
      (after (.decode 1 frameG) State.reset).err = .ok :=
  ⟨eq_next_of_isNext _ (by decide +kernel), by decide +kernel⟩

theorem test_witness_ValidateRecomputesAndCompares :
    State.reset.rawLen = 0 ∧ (decodedF 1).rawLen ≠ 0 ∧ Memory.wf (decodedF 1) := by decide +kernel

theorem test_witness_ValidateIsIdempotent :
    exec .validate (decodedF 0) = .next (after .validate (decodedF 0)) ∧ (after .validate (decodedF 0)).err = .ok :=
  ⟨eq_next_of_isNext _ (by decide +kernel), by decide +kernel⟩

theorem test_witness_EncodeSerialises : State.reset.rawLen = 0 ∧
    ((decodedF 1).rawLen ≠ 0 ∧ (decodedF 1).mode = .frozen) ∧
    ((decodedF 0).rawLen ≠ 0 ∧ (decodedF 0).mode = .auto ∧ Memory.wf (decodedF 0)) := by decide +kernel

theorem test_witness_EncodeIsIdempotent : Memory.wf (decodedF 0) ∧
    exec .encode (decodedF 0) = .next (after .encode (decodedF 0)) ∧ (after .encode (decodedF 0)).err = .ok :=
  ⟨by decide +kernel, eq_next_of_isNext _ (by decide +kernel), by decide +kernel⟩

/-- Out of range by one, and the largest values in range with the mode operand 1. -/
theorem test_witness_NewRefusals : 64 ≤ ({ newF with version := 64 } : NewArgs).version.toNat ∧
    1010 < ({ newF with payload := List.replicate 1011 0 } : NewArgs).payload.length ∧
    (1 : Byte).toNat = 1 ∧ (63 : Byte).toNat < 64 ∧ (31 : Byte).toNat < 32 ∧ (7 : Byte).toNat < 8 ∧
    (3 : Byte).toNat < 4 ∧ (15 : Byte).toNat < 16 ∧ (List.replicate 1010 (0 : Byte)).length ≤ 1010 := by
  decide +kernel

theorem test_witness_NewBuildsThePacket : newF.m = 0 ∧ newF.version.toNat < 64 ∧ newF.srcType.toNat < 32 ∧
    newF.srcIndex.toNat < 8 ∧ newF.dstType.toNat < 32 ∧ newF.dstIndex.toNat < 8 ∧ newF.dir.toNat < 2 ∧
    newF.ack.toNat < 4 ∧ newF.enc.toNat < 16 ∧ newF.payload.length ≤ 1010 := by decide

theorem test_witness_NewThenDecodeRoundTrip :
    exec (.new newF) State.reset = .next (after (.new newF) State.reset) ∧
      (after (.new newF) State.reset).err = .ok :=
  ⟨eq_next_of_isNext _ (by decide +kernel), by decide +kernel⟩

/-- The operand that is restored, and one that is not. -/
theorem test_witness_DecodeThenEncodeRestoresIffIntact :
    exec (.decode 0 frameG) State.reset = .next (after (.decode 0 frameG) State.reset) ∧
      (after (.decode 0 frameG) State.reset).err = .ok ∧
      exec (.decode 0 frameBad) State.reset = .next (after (.decode 0 frameBad) State.reset) ∧
      (after (.decode 0 frameBad) State.reset).err = .ok :=
  ⟨eq_next_of_isNext _ (by decide +kernel), by decide +kernel, eq_next_of_isNext _ (by decide +kernel),
    by decide +kernel⟩

theorem test_witness_FieldSelectors : 0x10 < (0x11 : Byte).toNat := by decide

/-- Each clause at its boundary: a 6-bit field written 64 and 63; payloads of 1011 and of 1010 bytes. -/
theorem test_witness_FieldWriteRefusals : fieldOf 0x00 = some .version ∧
    2 ^ fieldWidth .version ≤ (64 : Half).toNat ∧ (63 : Half).toNat < 2 ^ fieldWidth .version ∧
    State.reset.rawLen = 0 ∧ 1010 < (List.replicate 1011 (0 : Byte)).length ∧
    (List.replicate 1010 (0 : Byte)).length ≤ 1010 := by decide +kernel

theorem test_witness_FrozenWrfWritesOneRegister : fieldOf 0x10 = some .checksum ∧
    (0xFFFF : Half).toNat < 2 ^ fieldWidth .checksum ∧ (decodedF 1).rawLen ≠ 0 ∧ (decodedF 1).mode = .frozen := by
  decide +kernel

/-- A register that is not derived, and one that is. -/
theorem test_witness_AutoWrfRecalculates : fieldOf 0x06 = some .srcIndex ∧ (7 : Half).toNat < 2 ^ fieldWidth .srcIndex ∧
    .srcIndex ∉ derivedFields ∧ fieldOf 0x03 = some .srcRaw ∧ (255 : Half).toNat < 2 ^ fieldWidth .srcRaw ∧
    (decodedF 0).rawLen ≠ 0 ∧ (decodedF 0).mode = .auto ∧ Memory.wf (decodedF 0) := by decide +kernel

theorem test_witness_AutoWrfToDerivedRegisterIsLost : fieldOf 0x01 = some .length ∧ .length ∈ derivedFields ∧
    (1023 : Half).toNat < 2 ^ fieldWidth .length ∧ (decodedF 0).mode = .auto := by decide +kernel

theorem test_witness_FrozenWrpayWritesPayloadOnly : (List.replicate 1010 (0 : Byte)).length ≤ 1010 ∧
    (decodedF 1).rawLen ≠ 0 ∧ (decodedF 1).mode = .frozen := by decide +kernel

theorem test_witness_AutoWrpayRecalculates : (List.replicate 1010 (0 : Byte)).length ≤ 1010 ∧
    ([] : List Byte).length ≤ 1010 ∧ (decodedF 0).rawLen ≠ 0 ∧ (decodedF 0).mode = .auto := by decide +kernel

theorem test_witness_WrrawIsAlwaysRefused : frameF.length ≤ 65535 ∧ (waiting ([0x5F, 0x0E, 0x00] ++ frameF)).rst = false ∧
    (waiting ([0x5F, 0x0E, 0x00] ++ frameF)).port =
      [0x5F, BitVec.ofNat 8 (frameF.length % 256), BitVec.ofNat 8 (frameF.length / 256)] ++ frameF ++ [] := by
  decide +kernel

theorem test_witness_ErrorsChangeNothingElse :
    exec (.wrf 0x00 64) (decodedF 0) = .next (after (.wrf 0x00 64) (decodedF 0)) ∧
      (after (.wrf 0x00 64) (decodedF 0)).err ≠ .ok :=
  ⟨eq_next_of_isNext _ (by decide +kernel), by decide +kernel⟩

theorem test_witness_ErrorsByOperation :
    exec .encode (decodedF 1) = .next (after .encode (decodedF 1)) ∧
      exec (.wrraw []) State.reset = .next (after (.wrraw []) State.reset) :=
  ⟨eq_next_of_isNext _ (by decide +kernel), eq_next_of_isNext _ (by decide +kernel)⟩

/-- An operation that constructs nothing, a failed construction, a DECODE and a NEW that succeed. -/
theorem test_witness_ModeIsFixedAtConstruction :
    (exec (.wrpay []) (decodedF 1) = .next (after (.wrpay []) (decodedF 1)) ∧ constructs (.wrpay []) = false) ∧
    (exec (.decode 0 []) (decodedF 1) = .next (after (.decode 0 []) (decodedF 1)) ∧
      (after (.decode 0 []) (decodedF 1)).err ≠ .ok) ∧
    (exec (.decode 1 frameF) (decodedF 0) = .next (after (.decode 1 frameF) (decodedF 0)) ∧
      (after (.decode 1 frameF) (decodedF 0)).err = .ok) ∧
    (exec (.new newF) (decodedF 1) = .next (after (.new newF) (decodedF 1)) ∧
      (after (.new newF) (decodedF 1)).err = .ok) :=
  ⟨⟨eq_next_of_isNext _ (by decide +kernel), rfl⟩, ⟨eq_next_of_isNext _ (by decide +kernel), by decide +kernel⟩,
    ⟨eq_next_of_isNext _ (by decide +kernel), by decide +kernel⟩,
    ⟨eq_next_of_isNext _ (by decide +kernel), by decide +kernel⟩⟩

theorem test_witness_ChangedIsMonotoneBetweenConstructions :
    (exec (.decode 0 frameF) (after (.wrpay []) (decodedF 1)) =
        .next (after (.decode 0 frameF) (after (.wrpay []) (decodedF 1))) ∧
      (after (.decode 0 frameF) (after (.wrpay []) (decodedF 1))).err = .ok) ∧
    (exec (.wrf 0x06 1) (decodedF 0) = .next (after (.wrf 0x06 1) (decodedF 0)) ∧ writesField (.wrf 0x06 1) = true ∧
      (after (.wrf 0x06 1) (decodedF 0)).err = .ok) ∧
    (exec .pkct (decodedF 0) = .next (after .pkct (decodedF 0)) ∧ constructs .pkct = false ∧
      writesField .pkct = false) :=
  ⟨⟨eq_next_of_isNext _ (by decide +kernel), by decide +kernel⟩,
    ⟨eq_next_of_isNext _ (by decide +kernel), rfl, by decide +kernel⟩,
    ⟨eq_next_of_isNext _ (by decide +kernel), rfl, rfl⟩⟩

theorem test_witness_ValidIsWrittenByValidateOnly :
    (exec .encode (decodedF 0) = .next (after .encode (decodedF 0)) ∧ Instr.encode ≠ .validate) ∧
    (exec .validate (decodedF 0) = .next (after .validate (decodedF 0)) ∧ (after .validate (decodedF 0)).err = .ok) :=
  ⟨⟨eq_next_of_isNext _ (by decide +kernel), by decide⟩,
    ⟨eq_next_of_isNext _ (by decide +kernel), by decide +kernel⟩⟩

theorem test_witness_PacketPresence :
    (exec (.new newF) State.reset = .next (after (.new newF) State.reset) ∧ Memory.wf State.reset ∧
      constructs (.new newF) = true ∧ (after (.new newF) State.reset).err = .ok) ∧
    (exec .encode (decodedF 0) = .next (after .encode (decodedF 0)) ∧ Memory.wf (decodedF 0) ∧
      (decodedF 0).rawLen ≠ 0) ∧
    (needsPacket .upkct = true ∧ State.reset.rawLen = 0 ∧ fieldOperandsInRange .upkct ∧
      fieldOperandsInRange (.wrf 0x00 63)) ∧
    (needsPacket (.wrf 0x00 64) = true ∧ ¬ fieldOperandsInRange (.wrf 0x00 64) ∧ ¬ fieldOperandsInRange (.wrf 0x11 0)) :=
  ⟨⟨eq_next_of_isNext _ (by decide +kernel), by decide, rfl, by decide +kernel⟩,
    ⟨eq_next_of_isNext _ (by decide +kernel), by decide +kernel, by decide +kernel⟩,
    ⟨rfl, rfl, trivial, ⟨.version, by decide⟩⟩,
    ⟨rfl, by simp [fieldOperandsInRange, fieldOf, fieldWidth], by simp [fieldOperandsInRange, fieldOf]⟩⟩

theorem test_witness_StoresAndAccumulatorsHaveTheirWriters :
    (exec .encode (decodedF 0) = .next (after .encode (decodedF 0)) ∧ constructs .encode = false) ∧
    (exec .validate (decodedF 0) = .next (after .validate (decodedF 0)) ∧ writesField .validate = false ∧
      Instr.validate ≠ .encode) ∧
    (exec .pkct (decodedF 0) = .next (after .pkct (decodedF 0)) ∧
      Instr.pkct ∈ [Instr.pksrc, .upksrc, .pkdst, .upkdst, .pkct, .upkct]) :=
  ⟨⟨eq_next_of_isNext _ (by decide +kernel), rfl⟩,
    ⟨eq_next_of_isNext _ (by decide +kernel), rfl, by decide⟩,
    ⟨eq_next_of_isNext _ (by decide +kernel), by decide⟩⟩

theorem test_witness_FrozenFrameIsNeverRewritten : (decodedF 1).mode = .frozen ∧
    exec (.wrpay [0x09]) (decodedF 1) = .next (after (.wrpay [0x09]) (decodedF 1)) ∧ constructs (.wrpay [0x09]) = false :=
  ⟨by decide +kernel, eq_next_of_isNext _ (by decide +kernel), rfl⟩

/-- A recalculating write, an ENCODE on a packet whose packing holds, a DECODE with bit 4 set, a frozen write. -/
theorem test_witness_RecalculationEstablishesInvariants :
    (Memory.wf (decodedF 0) ∧ exec (.wrf 0x06 2) (decodedF 0) = .next (after (.wrf 0x06 2) (decodedF 0)) ∧
      (after (.wrf 0x06 2) (decodedF 0)).err = .ok ∧ (decodedF 0).mode = .auto) ∧
    (exec .encode (decodedF 0) = .next (after .encode (decodedF 0)) ∧ (after .encode (decodedF 0)).err = .ok ∧
      (decodedF 0).srcRaw.toNat = (decodedF 0).srcType.toNat + 32 * (decodedF 0).srcIndex.toNat ∧
      (decodedF 0).ctRaw.toNat =
        128 * (decodedF 0).ctDir.toNat + 32 * (decodedF 0).ctAck.toNat + (decodedF 0).ctEnc.toNat) ∧
    (exec (.decode 0 frameG) State.reset = .next (after (.decode 0 frameG) State.reset) ∧
      (after (.decode 0 frameG) State.reset).err = .ok) ∧
    (Memory.wf (decodedF 1) ∧ exec (.wrf 0x03 0x4A) (decodedF 1) = .next (after (.wrf 0x03 0x4A) (decodedF 1)) ∧
      (after (.wrf 0x03 0x4A) (decodedF 1)).err = .ok ∧ (decodedF 1).mode = .frozen ∧
      Memory.read (decodedF 1).raw 0 = some 0x55) :=
  ⟨⟨by decide +kernel, eq_next_of_isNext _ (by decide +kernel), by decide +kernel, by decide +kernel⟩,
    ⟨eq_next_of_isNext _ (by decide +kernel), by decide +kernel, by decide +kernel, by decide +kernel⟩,
    ⟨eq_next_of_isNext _ (by decide +kernel), by decide +kernel⟩,
    ⟨by decide +kernel, eq_next_of_isNext _ (by decide +kernel), by decide +kernel, by decide +kernel,
      by decide +kernel⟩⟩

/-- ENCODE on a packet with a wrong checksum, NEW, a WRF and a WRPAY in auto mode. -/
theorem test_witness_ValidAfterRecalculation : Memory.wf (after (.decode 0 frameBad) State.reset) ∧
    exec .encode (after (.decode 0 frameBad) State.reset) =
      .next (after .encode (after (.decode 0 frameBad) State.reset)) ∧
    (after .encode (after (.decode 0 frameBad) State.reset)).err = .ok ∧
    (Memory.wf State.reset ∧ exec (.new newF) State.reset = .next (after (.new newF) State.reset) ∧
      (after (.new newF) State.reset).err = .ok) ∧
    (Memory.wf (decodedF 0) ∧ (decodedF 0).mode = .auto ∧
      (exec (.wrf 0x06 2) (decodedF 0) = .next (after (.wrf 0x06 2) (decodedF 0)) ∧ writesField (.wrf 0x06 2) = true ∧
        (after (.wrf 0x06 2) (decodedF 0)).err = .ok) ∧
      exec (.wrpay []) (decodedF 0) = .next (after (.wrpay []) (decodedF 0)) ∧ writesField (.wrpay []) = true ∧
        (after (.wrpay []) (decodedF 0)).err = .ok) :=
  ⟨by decide +kernel, eq_next_of_isNext _ (by decide +kernel), by decide +kernel,
    ⟨by decide +kernel, eq_next_of_isNext _ (by decide +kernel), by decide +kernel⟩,
    ⟨by decide +kernel, by decide +kernel, ⟨eq_next_of_isNext _ (by decide +kernel), rfl, by decide +kernel⟩,
      eq_next_of_isNext _ (by decide +kernel), rfl, by decide +kernel⟩⟩

/-- A state that a run reaches, a frozen packet with a byte sent to it, meets the invariant, and steps. -/
theorem test_witness_StepKeepsTheInvariant :
    Inv (hostSend [0x41] (decodedF 1)) ∧
      step (hostSend [0x41] (decodedF 1)) = .next (stateOf (step (hostSend [0x41] (decodedF 1)))) := by
  refine ⟨⟨by decide +kernel, by decide +kernel, fun h => absurd h (by decide +kernel), fun _ => ?_, fun _ h => ?_⟩,
    eq_next_of_isNext _ (by decide +kernel)⟩
  · show Memory.read (hostSend [0x41] (decodedF 1)).raw 0 = some 0x55
    decide +kernel
  · exact absurd h (by decide +kernel)

theorem test_witness_NoStepStops : Memory.wf (hostSend [0x41] (decodedF 1)) := by decide +kernel

end Sys2Proof.Tests
end

section
/-! PROOFS. What an operation can do, said once: it ends with one of its errors, or it completes, and then what it leaves
is one of eight effects. Every claim about all operations is a case split on these. -/

namespace Sys2Proof.Machine

/-! ### The effects -/

/-- The six operations on the accumulators (R94 to R96, R114 to R116), and the state each leaves before `done`. -/
inductive Accumulates : Instr → State → State → Prop
  | c16init {s : State} : Accumulates .c16init s { s with c16 := fiu.seed16 }
  | c16upd {b : Byte} {s : State} : Accumulates (.c16upd b) s { s with c16 := crc16Step fiu s.c16 b }
  | c16blk {data : List Byte} {s : State} : Accumulates (.c16blk data) s { s with c16 := checksum16 fiu data }
  | c8init {s : State} : Accumulates .c8init s { s with c8 := fiu.seed8 }
  | c8upd {b : Byte} {s : State} : Accumulates (.c8upd b) s { s with c8 := crc8Step fiu s.c8 b }
  | c8blk {data : List Byte} {s : State} : Accumulates (.c8blk data) s { s with c8 := checksum8 fiu data }

/-- The six operations of unit U3 (R135 to R140), and the state each leaves before `done`. -/
inductive Repacks : Instr → State → State → Prop
  | pksrc {s : State} : Repacks .pksrc s (packSrc s)
  | upksrc {s : State} : Repacks .upksrc s (unpackSrc s.srcRaw s)
  | pkdst {s : State} : Repacks .pkdst s (packDst s)
  | upkdst {s : State} : Repacks .upkdst s (unpackDst s.dstRaw s)
  | pkct {s : State} : Repacks .pkct s (packCt s)
  | upkct {s : State} : Repacks .upkct s (unpackCt s.ctRaw s)

/-- The two field writes with operands in range (R181, R182), and the state each leaves before `CHANGED` is set. -/
inductive WritesField : Instr → State → State → Prop
  | wrf {fsel : Byte} {v : Half} {f : Field} {s : State} (hf : fieldOperand fsel v = some f) :
      WritesField (.wrf fsel v) s (setField f v s)
  | wrpay {data : List Byte} {s : State} (hfit : payloadFits data) : WritesField (.wrpay data) s (writePay data s)

/-- The operation completes from the first state, leaving the second, which `done` has given `ERR` OK. -/
inductive Completes : Instr → State → State → Prop
  | accumulate {i : Instr} {s u : State} (ha : Accumulates i s u) : Completes i s (done u)
  | repack {i : Instr} {s u : State} (hp : s.rawLen ≠ 0) (hr : Repacks i s u) : Completes i s (done u)
  | validate {s : State} (hp : s.rawLen ≠ 0) (h3 : 3 ≤ s.raw.length) (hn : s.rawLen.toNat - 2 ≤ s.raw.length) :
      Completes .validate s (done (judge (recompute (s.raw.take 3) (s.raw.take (s.rawLen.toNat - 2)) s)))
  | encode {s u : State} (hp : s.rawLen ≠ 0) (hm : s.mode = .auto) (hu : serialise s = .next u) :
      Completes .encode s (done u)
  | new {a : NewArgs} {s u : State} (hm : modeOperand a.m = some .auto) (hr : newFieldsInRange a)
      (hu : serialise (construct .auto (loadFields a s)) = .next u) : Completes (.new a) s (done u)
  | writeAuto {i : Instr} {s w u : State} (hp : s.rawLen ≠ 0) (hm : s.mode = .auto) (hw : WritesField i s w)
      (hu : recalc (markChanged w) = .next u) : Completes i s (done u)
  | writeFrozen {i : Instr} {s w : State} (hp : s.rawLen ≠ 0) (hm : s.mode = .frozen) (hw : WritesField i s w) :
      Completes i s (done (markChanged w))
  | decode {m : Byte} {md : Mode} {data : List Byte} {s : State} (h13 : 13 ≤ data.length)
      (hbuf : (declaredLength data h13).toNat ≤ data.length) (hmin : 13 ≤ (declaredLength data h13).toNat)
      (hm : modeOperand m = some md) (h0 : data[0] = magic) :
      Completes (.decode m data) s
        (done (loadFrame md data (declaredVersion data h13) (declaredLength data h13) hmin hbuf s))

theorem WritesField.writesField {i : Instr} {s w : State} (h : WritesField i s w) : writesField i = true := by
  cases h <;> rfl

theorem WritesField.constructs {i : Instr} {s w : State} (h : WritesField i s w) : constructs i = false := by
  cases h <;> rfl

theorem WritesField.mode {i : Instr} {s w : State} (h : WritesField i s w) : w.mode = s.mode := by
  cases h <;> simp

/-! ### Every operation ends with one of its errors or completes -/

/-- An operation that needs a packet and may end with `NoPacket`: it does, or it completes as its body does. -/
theorem needPacket_completes {i : Instr} {s t : State} {body : Result} (he : Err.noPacket ∈ errorsOf i)
    (h : needPacket s body = .next t) (hb : s.rawLen ≠ 0 → body = .next t → Completes i s t) :
    (∃ e ∈ errorsOf i, t = raise e s) ∨ Completes i s t := by
  obtain ⟨-, rfl⟩ | ⟨hp, ht⟩ := (needPacket_next s t body).1 h
  · exact .inl ⟨.noPacket, he, rfl⟩
  · exact .inr (hb hp ht)

/-- A U3 operation whose state before `done` is `u` ends with `NoPacket` or completes with it. -/
theorem needPacket_finish_completes {i : Instr} {s t u : State} (he : Err.noPacket ∈ errorsOf i)
    (hr : Repacks i s u) (h : needPacket s (finish u) = .next t) :
    (∃ e ∈ errorsOf i, t = raise e s) ∨ Completes i s t :=
  needPacket_completes he h fun hp ht => Host.Outcome.next.inj ht ▸ .repack hp hr

theorem execValidate_next {s t : State} (h : execValidate s = .next t) :
    (∃ e ∈ errorsOf .validate, t = raise e s) ∨ Completes .validate s t := by
  refine needPacket_completes (by decide) h fun hp ht => ?_
  split at ht
  · rename_i head body hhead hbody
    obtain ⟨h3, rfl⟩ := (prefix_eq_some s.raw head 3).1 hhead
    obtain ⟨hn, rfl⟩ := (prefix_eq_some s.raw body _).1 hbody
    exact Host.Outcome.next.inj ht ▸ .validate hp h3 hn
  · cases ht

theorem execEncode_next {s t : State} (h : execEncode s = .next t) :
    (∃ e ∈ errorsOf .encode, t = raise e s) ∨ Completes .encode s t := by
  obtain ⟨-, rfl⟩ | ⟨hp, hbody⟩ := (needPacket_next s t _).1 h
  · exact .inl ⟨.noPacket, by decide, rfl⟩
  · split at hbody
    · exact .inl ⟨.refused, by decide, (Host.Outcome.next.inj hbody).symm⟩
    · rename_i hm
      obtain ⟨u, hu, rfl⟩ := (thenFinish_next _ t).1 hbody
      exact .inr (.encode hp hm hu)

theorem execNew_next {a : NewArgs} {s t : State} (h : execNew a s = .next t) :
    (∃ e ∈ errorsOf (.new a), t = raise e s) ∨ Completes (.new a) s t := by
  unfold execNew at h
  split at h
  · exact .inl ⟨.badOperand, by simp [errorsOf], (Host.Outcome.next.inj h).symm⟩
  · rename_i md hm
    split at h
    · rename_i hr
      cases md with
      | frozen => exact .inl ⟨.refused, by simp [errorsOf], (Host.Outcome.next.inj h).symm⟩
      | auto =>
        obtain ⟨u, hu, rfl⟩ := (thenFinish_next _ t).1 h
        exact .inr (.new hm hr hu)
    · exact .inl ⟨.badOperand, by simp [errorsOf], (Host.Outcome.next.inj h).symm⟩

/-- A field write whose operands are in range ends with `NoPacket`, or completes in the way of its mode. -/
theorem needPacket_endWrite_completes {i : Instr} {s t w : State} (he : Err.noPacket ∈ errorsOf i)
    (hw : WritesField i s w) (h : needPacket s (endWrite w) = .next t) :
    (∃ e ∈ errorsOf i, t = raise e s) ∨ Completes i s t := by
  refine needPacket_completes he h fun hp ht => ?_
  obtain ⟨hm, rfl⟩ | ⟨hm, u, hu, rfl⟩ := (endWrite_next w t).1 ht
  · exact .writeFrozen hp (hw.mode ▸ hm) hw
  · exact .writeAuto hp (hw.mode ▸ hm) hw hu

theorem execWrf_next {fsel : Byte} {v : Half} {s t : State} (h : execWrf fsel v s = .next t) :
    (∃ e ∈ errorsOf (.wrf fsel v), t = raise e s) ∨ Completes (.wrf fsel v) s t := by
  unfold execWrf at h
  split at h
  · exact .inl ⟨.badOperand, by simp [errorsOf], (Host.Outcome.next.inj h).symm⟩
  · rename_i f hf
    exact needPacket_endWrite_completes (by simp [errorsOf]) (.wrf hf) h

theorem execWrpay_next {data : List Byte} {s t : State} (h : execWrpay data s = .next t) :
    (∃ e ∈ errorsOf (.wrpay data), t = raise e s) ∨ Completes (.wrpay data) s t := by
  unfold execWrpay at h
  split at h
  · rename_i hfit
    exact needPacket_endWrite_completes (by simp [errorsOf]) (.wrpay hfit) h
  · exact .inl ⟨.badOperand, by simp [errorsOf], (Host.Outcome.next.inj h).symm⟩

/-- Whatever an operation answers, it has ended with one of the errors of R201, nothing but `ERR` written, or it has
completed. -/
theorem exec_next {i : Instr} {s t : State} (h : exec i s = .next t) :
    (∃ e ∈ errorsOf i, t = raise e s) ∨ Completes i s t := by
  cases i with
  | c16init => exact .inr (Host.Outcome.next.inj h ▸ .accumulate .c16init)
  | c16upd b => exact .inr (Host.Outcome.next.inj h ▸ .accumulate .c16upd)
  | c16blk data => exact .inr (Host.Outcome.next.inj h ▸ .accumulate .c16blk)
  | c8init => exact .inr (Host.Outcome.next.inj h ▸ .accumulate .c8init)
  | c8upd b => exact .inr (Host.Outcome.next.inj h ▸ .accumulate .c8upd)
  | c8blk data => exact .inr (Host.Outcome.next.inj h ▸ .accumulate .c8blk)
  | pksrc => exact needPacket_finish_completes (by decide) .pksrc h
  | upksrc => exact needPacket_finish_completes (by decide) .upksrc h
  | pkdst => exact needPacket_finish_completes (by decide) .pkdst h
  | upkdst => exact needPacket_finish_completes (by decide) .upkdst h
  | pkct => exact needPacket_finish_completes (by decide) .pkct h
  | upkct => exact needPacket_finish_completes (by decide) .upkct h
  | decode m data =>
    obtain he | ⟨md, h13, hbuf, hmin, hm, h0, rfl⟩ := execDecode_next m data s t h
    · exact .inl he
    · exact .inr (.decode h13 hbuf hmin hm h0)
  | validate => exact execValidate_next h
  | encode => exact execEncode_next h
  | new a => exact execNew_next h
  | wrf fsel v => exact execWrf_next h
  | wrpay data => exact execWrpay_next h
  | wrraw data => exact .inl ⟨.immutableRawBuffer, by simp [errorsOf], (Host.Outcome.next.inj h).symm⟩

theorem Completes.err {i : Instr} {s t : State} (h : Completes i s t) : t.err = .ok := by
  cases h <;> rfl

theorem ok_notMem_errorsOf (i : Instr) : Err.ok ∉ errorsOf i := by
  cases i <;> simp [errorsOf]

theorem malformedHex_notMem_errorsOf (i : Instr) : Err.malformedHex ∉ errorsOf i := by
  cases i <;> simp [errorsOf]

/-- An operation that ends with `ERR` OK has completed. -/
theorem exec_next_ok {i : Instr} {s t : State} (h : exec i s = .next t) (hok : t.err = .ok) : Completes i s t := by
  obtain ⟨e, he, rfl⟩ | hc := exec_next h
  · exact absurd (hok ▸ he) (ok_notMem_errorsOf i)
  · exact hc

/-- A step: the reset input holds the block; or the block waits; or it consumes a byte that is no operation code; or it
performs the operation on its port. -/
theorem step_next {s t : State} (h : step s = .next t) :
    (s.rst = true ∧ t = heldInReset) ∨ (decode s.port = .incomplete ∧ t = s) ∨
      (∃ op rest, decode s.port = .illegalOp op rest ∧ t = raise .illegalOp (consume rest s)) ∨
      ∃ i rest, decode s.port = .instr i rest ∧ exec i (consume rest s) = .next t := by
  unfold step at h
  split at h
  · rename_i hrst
    exact .inl ⟨hrst, (Host.Outcome.next.inj h).symm⟩
  · split at h
    · rename_i i rest hd
      exact .inr (.inr (.inr ⟨i, rest, hd, h⟩))
    · rename_i op rest hd
      exact .inr (.inr (.inl ⟨op, rest, hd, (Host.Outcome.next.inj h).symm⟩))
    · rename_i hd
      exact .inr (.inl ⟨hd, (Host.Outcome.next.inj h).symm⟩)

end Sys2Proof.Machine
end

section
/-! PROOFS. The packet after each effect: the six invariants of R25 as equations between registers, and which of them
SERIALISE, the packings and DECODE establish. -/

namespace Sys2Proof.Machine

/-! ### The packings as equations -/

theorem addressesPacked_iff (s : State) :
    addressesPacked s ↔ s.srcRaw = packAddress s.srcType s.srcIndex ∧ s.dstRaw = packAddress s.dstType s.dstIndex := by
  simp only [addressesPacked, ← packAddress_toNat, BitVec.toNat_inj]

theorem commandTypePacked_iff (s : State) :
    commandTypePacked s ↔ s.ctRaw = packCommandType s.ctDir s.ctAck s.ctEnc := by
  simp only [commandTypePacked, ← packCommandType_toNat, BitVec.toNat_inj]

theorem commandTypeAgrees_iff (s : State) :
    commandTypeAgrees s ↔ s.ctRaw &&& 0xEF = packCommandType s.ctDir s.ctAck s.ctEnc := by
  simp only [commandTypeAgrees, ← packCommandType_toNat, BitVec.toNat_inj]

/-- R134: an address byte is the packing of what it unpacks to. -/
theorem packAddress_unpackAddress (b : Byte) : packAddress (unpackAddress b).1 (unpackAddress b).2 = b := by
  revert b
  decide +kernel

/-- R134: repacking an unpacked command-type byte clears bit 4. -/
theorem packCommandType_unpackCommandType (b : Byte) :
    packCommandType (unpackCommandType b).1 (unpackCommandType b).2.1 (unpackCommandType b).2.2 = b &&& 0xEF := by
  revert b
  decide +kernel

theorem packCommandType_and_mask (d : BitVec 1) (a : BitVec 2) (e : BitVec 4) :
    packCommandType d a e &&& 0xEF = packCommandType d a e := by
  revert d a e
  decide +kernel

theorem and_mask_eq_self_iff (b : Byte) : b = b &&& 0xEF ↔ b.getLsbD 4 = false := by
  revert b
  decide +kernel

theorem commandTypeAgrees_of_packed {s : State} (h : commandTypePacked s) : commandTypeAgrees s := by
  rw [commandTypePacked_iff] at h
  rw [commandTypeAgrees_iff, h, packCommandType_and_mask]

/-! ### Unit U3 -/

theorem addressesPacked_pack (s : State) : addressesPacked (packCt (packDst (packSrc s))) := by
  simp [addressesPacked_iff]

theorem commandTypePacked_pack (s : State) : commandTypePacked (packCt s) := by
  simp [commandTypePacked_iff]

/-- A U3 operation leaves the packet but for the address and command-type registers, and all else, as it was. -/
theorem Repacks.frame {i : Instr} {s u : State} (h : Repacks i s u) :
    (u.pay = s.pay ∧ u.payLen = s.payLen ∧ u.raw = s.raw ∧ u.rawLen = s.rawLen) ∧ u.length = s.length ∧
      keepsAccumulators s u ∧ keepsStatus s u ∧ u.err = s.err := by
  cases h <;> exact ⟨⟨rfl, rfl, rfl, rfl⟩, rfl, ⟨rfl, rfl⟩, ⟨rfl, rfl, rfl⟩, rfl⟩

/-- A U3 operation keeps the addresses packed: it packs one, or unpacks it from its byte, or touches neither. -/
theorem Repacks.addressesPacked {i : Instr} {s u : State} (h : Repacks i s u) (hs : addressesPacked s) :
    addressesPacked u := by
  rw [addressesPacked_iff] at hs ⊢
  obtain ⟨hsrc, hdst⟩ := hs
  cases h with
  | pksrc => exact ⟨rfl, hdst⟩
  | upksrc => exact ⟨(packAddress_unpackAddress s.srcRaw).symm, hdst⟩
  | pkdst => exact ⟨hsrc, rfl⟩
  | upkdst => exact ⟨hsrc, (packAddress_unpackAddress s.dstRaw).symm⟩
  | pkct => exact ⟨hsrc, hdst⟩
  | upkct => exact ⟨hsrc, hdst⟩

/-- A U3 operation keeps the command-type byte packed but for bit 4. -/
theorem Repacks.commandTypeAgrees {i : Instr} {s u : State} (h : Repacks i s u) (hs : commandTypeAgrees s) :
    commandTypeAgrees u := by
  cases h with
  | pksrc => exact hs
  | upksrc => exact hs
  | pkdst => exact hs
  | upkdst => exact hs
  | pkct => exact commandTypeAgrees_of_packed (commandTypePacked_pack s)
  | upkct => exact (commandTypeAgrees_iff _).2 (packCommandType_unpackCommandType s.ctRaw).symm

/-! ### SERIALISE -/

/-- The first three bytes of the frame are those the header checksum is computed over. -/
theorem serialiseWith_raw_take_three (p : List Byte) (s : State) : (serialiseWith p s).raw.take 3 = frameHead s := rfl

theorem headerChecksumRight_serialiseWith (p : List Byte) (s : State) : headerChecksumRight (serialiseWith p s) := by
  rw [headerChecksumRight, serialiseWith_raw_take_three, serialiseWith_hcrc, frameHcrc]

theorem magicInPlace_serialiseWith (p : List Byte) (s : State) : magicInPlace (serialiseWith p s) := rfl

theorem packetChecksumRight_serialiseWith (p : List Byte) (s : State) (h : p.length ≤ maxPayload) :
    packetChecksumRight (serialiseWith p s) := by
  have hbody : (frameBody p s).length = (serialiseWith p s).rawLen.toNat - 2 := by
    rw [serialiseWith_rawLen p s h, frameBody_length]
    omega
  rw [packetChecksumRight, ← hbody, serialiseWith_raw, List.take_left, serialiseWith_checksum, frameChecksum]

theorem lengthsAgree_serialiseWith (s : State) (h : s.payLen.toNat = s.pay.length) (hmax : s.pay.length ≤ maxPayload) :
    lengthsAgree (serialiseWith s.pay s) := by
  have hlen : (frameLength s).toNat = 13 + s.payLen.toNat := frameLength_toNat s (by omega)
  refine ⟨BitVec.eq_of_toNat_eq ?_, ?_⟩
  · rw [serialiseWith_length, serialiseWith_rawLen s.pay s hmax, hlen, h]
  · rw [serialiseWith_length, serialiseWith_payLen, hlen]

/-- SERIALISE of a payload that fits leaves a packet present. -/
theorem rawLen_serialiseWith_ne_zero (p : List Byte) (s : State) (h : p.length ≤ maxPayload) :
    (serialiseWith p s).rawLen ≠ 0 := fun h0 => by
  have := serialiseWith_rawLen p s h
  simp [h0] at this
  omega

/-- R151: with the addresses and the command type packed, SERIALISE establishes all six invariants. -/
theorem consistent_serialiseWith (s : State) (hs : Memory.wf s) (ha : addressesPacked s) (hc : commandTypePacked s) :
    consistent (serialiseWith s.pay s) := by
  obtain ⟨hlen, -, hmax, -⟩ := hs
  exact ⟨lengthsAgree_serialiseWith s hlen hmax, ha, hc, headerChecksumRight_serialiseWith s.pay s,
    packetChecksumRight_serialiseWith s.pay s hmax, magicInPlace_serialiseWith s.pay s⟩

/-! ### Where SERIALISE starts: NEW, and the field writes -/

@[simp] theorem loadFields_pay (a : NewArgs) (s : State) : (loadFields a s).pay = a.payload := rfl
@[simp] theorem loadFields_payLen (a : NewArgs) (s : State) :
    (loadFields a s).payLen = BitVec.ofNat 10 a.payload.length := rfl
@[simp] theorem loadFields_valid (a : NewArgs) (s : State) : (loadFields a s).valid = s.valid := rfl

theorem loadFields_wf {a : NewArgs} {s : State} (hs : Memory.wf s) (hr : newFieldsInRange a) :
    Memory.wf (loadFields a s) := by
  obtain ⟨-, -, -, -, -, -, -, -, hfit⟩ := hr
  exact writePay_wf a.payload _ (wf_congr s _ rfl rfl rfl rfl hs) hfit

theorem addressesPacked_loadFields (a : NewArgs) (s : State) : addressesPacked (loadFields a s) := by
  simp [addressesPacked_iff, loadFields]

theorem commandTypePacked_loadFields (a : NewArgs) (s : State) : commandTypePacked (loadFields a s) := by
  simp [commandTypePacked_iff, loadFields]

theorem WritesField.frame {i : Instr} {s w : State} (h : WritesField i s w) :
    (w.raw = s.raw ∧ w.rawLen = s.rawLen) ∧ keepsAccumulators s w ∧ w.valid = s.valid ∧ w.err = s.err := by
  cases h <;> simp [keepsAccumulators]

theorem WritesField.wf {i : Instr} {s w : State} (h : WritesField i s w) (hs : Memory.wf s) : Memory.wf w := by
  cases h with
  | wrf hf =>
    exact wf_congr s _ (setField_pay _ _ s) (setField_payLen _ _ s) (setField_raw _ _ s) (setField_rawLen _ _ s) hs
  | wrpay hfit => exact writePay_wf _ s hs hfit

/-- An operation other than WRPAY that writes a field leaves the payload store. -/
theorem WritesField.pay {i : Instr} {s w : State} (h : WritesField i s w) (hi : ∀ data, i ≠ .wrpay data) :
    w.pay = s.pay ∧ w.payLen = s.payLen := by
  cases h with
  | wrf hf => simp
  | wrpay hfit => exact absurd rfl (hi _)

/-- With the stores in their form, SERIALISE lays out the whole payload, and answers nothing else. -/
theorem serialise_next_of_wf {s u : State} (hs : Memory.wf s) (h : serialise s = .next u) : u = serialiseWith s.pay s :=
  (Host.Outcome.next.inj ((serialise_wf s hs).symm.trans h)).symm

theorem wf_of_serialise {s u : State} (hs : Memory.wf s) (h : serialise s = .next u) : Memory.wf u := by
  obtain rfl := serialise_next_of_wf hs h
  exact serialiseWith_wf s hs

theorem rawLen_ne_zero_of_serialise {s u : State} (hs : Memory.wf s) (h : serialise s = .next u) : u.rawLen ≠ 0 := by
  obtain rfl := serialise_next_of_wf hs h
  obtain ⟨-, -, hmax, -⟩ := hs
  exact rawLen_serialiseWith_ne_zero s.pay s hmax

/-- With the stores in their form, RECALC packs and lays out the whole payload. -/
theorem recalc_next_of_wf {s u : State} (hs : Memory.wf s) (h : recalc s = .next u) :
    u = serialiseWith s.pay (packCt (packDst (packSrc s))) :=
  serialise_next_of_wf (s := packCt (packDst (packSrc s))) hs h

/-! ### DECODE -/

theorem word16_eq_iff (lo hi : Byte) (w : Half) : word16 lo hi = w ↔ lo = loByte w ∧ hi = hiByte w := by
  constructor
  · rintro rfl
    simp
  · rintro ⟨rfl, rfl⟩
    exact word16_lo_hi w

section
variable (md : Mode) (data : List Byte) (ver : BitVec 6) (len : BitVec 10) (hmin : 13 ≤ len.toNat)
  (hbuf : len.toNat ≤ data.length) (s : State)

@[simp] theorem loadFrame_length : (loadFrame md data ver len hmin hbuf s).length = len := rfl
@[simp] theorem loadFrame_raw : (loadFrame md data ver len hmin hbuf s).raw = data.take len.toNat := rfl
@[simp] theorem loadFrame_mode : (loadFrame md data ver len hmin hbuf s).mode = md := rfl
@[simp] theorem loadFrame_valid : (loadFrame md data ver len hmin hbuf s).valid = s.valid := rfl
@[simp] theorem loadFrame_c16 : (loadFrame md data ver len hmin hbuf s).c16 = s.c16 := rfl
@[simp] theorem loadFrame_c8 : (loadFrame md data ver len hmin hbuf s).c8 = s.c8 := rfl

@[simp] theorem loadFrame_rawLen : (loadFrame md data ver len hmin hbuf s).rawLen = len := by
  apply BitVec.eq_of_toNat_eq
  obtain ⟨-, hraw, -, -⟩ := loadFrame_wf md data ver len hmin hbuf s
  rw [hraw, loadFrame_raw, List.length_take_of_le hbuf]

theorem loadFrame_payLen_toNat : (loadFrame md data ver len hmin hbuf s).payLen.toNat = len.toNat - 13 := by
  obtain ⟨hpay, -, -, -⟩ := loadFrame_wf md data ver len hmin hbuf s
  rw [hpay]
  simp [loadFrame, payloadOffset]
  omega

theorem loadFrame_rawLen_ne_zero : (loadFrame md data ver len hmin hbuf s).rawLen ≠ 0 := fun h0 => by
  rw [loadFrame_rawLen] at h0
  simp [h0] at hmin

theorem lengthsAgree_loadFrame : lengthsAgree (loadFrame md data ver len hmin hbuf s) := by
  rw [lengthsAgree, loadFrame_length, loadFrame_rawLen, loadFrame_payLen_toNat]
  exact ⟨rfl, by omega⟩

theorem addressesPacked_loadFrame : addressesPacked (loadFrame md data ver len hmin hbuf s) :=
  (addressesPacked_iff _).2 ⟨(packAddress_unpackAddress data[4]).symm, (packAddress_unpackAddress data[5]).symm⟩

theorem commandTypeAgrees_loadFrame : commandTypeAgrees (loadFrame md data ver len hmin hbuf s) :=
  (commandTypeAgrees_iff _).2 (packCommandType_unpackCommandType data[8]).symm

theorem magicInPlace_loadFrame (h0 : data[0] = magic) : magicInPlace (loadFrame md data ver len hmin hbuf s) := by
  rw [magicInPlace, Memory.read, loadFrame_raw, List.getElem?_take_of_lt (by omega), List.getElem?_eq_getElem (by omega),
    h0, magic]

/-- R66: the command-type byte DECODE loads is the packing of its sub-fields exactly when its bit 4 is clear. -/
theorem commandTypePacked_loadFrame_iff :
    commandTypePacked (loadFrame md data ver len hmin hbuf s) ↔ ∃ b : Byte, data[8]? = some b ∧ b.getLsbD 4 = false := by
  have hpacked : commandTypePacked (loadFrame md data ver len hmin hbuf s) ↔
      data[8] = packCommandType (unpackCommandType data[8]).1 (unpackCommandType data[8]).2.1
        (unpackCommandType data[8]).2.2 := commandTypePacked_iff _
  rw [hpacked, packCommandType_unpackCommandType, and_mask_eq_self_iff]
  simp [List.getElem?_eq_getElem (show 8 < data.length by omega)]

/-- The header checksum DECODE loads is right exactly when the wire carried the right one. -/
theorem headerChecksumRight_loadFrame_iff :
    headerChecksumRight (loadFrame md data ver len hmin hbuf s) ↔ data[3]? = some (checksum8 fiu (data.take 3)) := by
  have htake : (data.take len.toNat).take 3 = data.take 3 := by
    rw [List.take_take, Nat.min_eq_left (by omega)]
  rw [headerChecksumRight, loadFrame_raw, htake, List.getElem?_eq_getElem (by omega), Option.some.injEq]
  rfl

/-- The whole-packet checksum DECODE loads is right exactly when the wire carried the right one, low byte first. -/
theorem packetChecksumRight_loadFrame_iff :
    packetChecksumRight (loadFrame md data ver len hmin hbuf s) ↔
      data[len.toNat - 2]? = some (loByte (checksum16 fiu (data.take (len.toNat - 2)))) ∧
      data[len.toNat - 1]? = some (hiByte (checksum16 fiu (data.take (len.toNat - 2)))) := by
  have htake : (data.take len.toNat).take (len.toNat - 2) = data.take (len.toNat - 2) := by
    rw [List.take_take, Nat.min_eq_left (by omega)]
  rw [packetChecksumRight, loadFrame_raw, loadFrame_rawLen, htake, List.getElem?_eq_getElem (by omega),
    List.getElem?_eq_getElem (by omega), Option.some.injEq, Option.some.injEq]
  exact word16_eq_iff _ _ _

end

/-! ### What an operation that completes keeps -/

theorem done_wf {s : State} (hs : Memory.wf s) : Memory.wf (done s) := raise_wf .ok s hs

/-- The accumulator operations write the accumulators and nothing else. -/
theorem Accumulates.frame {i : Instr} {s u : State} (h : Accumulates i s u) :
    ∃ (c16 : Half) (c8 : Byte), u = { s with c16 := c16, c8 := c8 } := by
  cases h <;> exact ⟨_, _, rfl⟩

/-- Every operation that completes keeps the form of the stores. -/
theorem Completes.wf {i : Instr} {s t : State} (h : Completes i s t) (hs : Memory.wf s) : Memory.wf t := by
  cases h with
  | accumulate ha =>
    obtain ⟨c16, c8, rfl⟩ := ha.frame
    exact hs
  | repack hp hr =>
    obtain ⟨⟨hpay, hpayLen, hraw, hrawLen⟩, -⟩ := hr.frame
    exact wf_congr s _ hpay hpayLen hraw hrawLen hs
  | validate hp h3 hn => exact hs
  | encode hp hm hu => exact done_wf (wf_of_serialise hs hu)
  | @new a _ _ hm hr hu =>
    exact done_wf (wf_of_serialise (s := construct .auto (loadFields a s)) (loadFields_wf hs hr) hu)
  | @writeAuto _ _ w _ hp hm hw hu =>
    exact done_wf (wf_of_serialise (s := packCt (packDst (packSrc (markChanged w)))) (hw.wf hs) hu)
  | writeFrozen hp hm hw => exact hw.wf hs
  | decode h13 hbuf hmin hm h0 => exact done_wf (loadFrame_wf _ _ _ _ hmin hbuf s)

/-- A packet is present after every construction, and after every operation that began with one. -/
theorem Completes.rawLen_ne_zero {i : Instr} {s t : State} (h : Completes i s t) (hs : Memory.wf s)
    (hp : constructs i = true ∨ s.rawLen ≠ 0) : t.rawLen ≠ 0 := by
  cases h with
  | accumulate ha =>
    cases ha <;> exact hp.resolve_left Bool.false_ne_true
  | repack hp hr =>
    obtain ⟨⟨-, -, -, hrawLen⟩, -⟩ := hr.frame
    simpa [hrawLen] using hp
  | validate hp h3 hn => exact hp
  | encode hp hm hu =>
    rw [done_rawLen]
    exact rawLen_ne_zero_of_serialise hs hu
  | @new a _ _ hm hr hu =>
    rw [done_rawLen]
    exact rawLen_ne_zero_of_serialise (s := construct .auto (loadFields a s)) (loadFields_wf hs hr) hu
  | @writeAuto _ _ w _ hp hm hw hu =>
    rw [done_rawLen]
    exact rawLen_ne_zero_of_serialise (s := packCt (packDst (packSrc (markChanged w)))) (hw.wf hs) hu
  | writeFrozen hp hm hw =>
    obtain ⟨⟨-, hrawLen⟩, -⟩ := hw.frame
    simpa [hrawLen] using hp
  | decode h13 hbuf hmin hm h0 =>
    rw [done_rawLen]
    exact loadFrame_rawLen_ne_zero _ _ _ _ hmin hbuf s

end Sys2Proof.Machine
end

section
/-! PROOFS. Which invariants of R25 each operation establishes, and that every step keeps `Inv`. -/

namespace Sys2Proof.Machine

/-! ### The six invariants after the operations that lay out a frame -/

@[simp] theorem lengthsAgree_done (s : State) : lengthsAgree (done s) ↔ lengthsAgree s := Iff.rfl
@[simp] theorem addressesPacked_done (s : State) : addressesPacked (done s) ↔ addressesPacked s := Iff.rfl
@[simp] theorem commandTypePacked_done (s : State) : commandTypePacked (done s) ↔ commandTypePacked s := Iff.rfl
@[simp] theorem commandTypeAgrees_done (s : State) : commandTypeAgrees (done s) ↔ commandTypeAgrees s := Iff.rfl
@[simp] theorem headerChecksumRight_done (s : State) : headerChecksumRight (done s) ↔ headerChecksumRight s := Iff.rfl
@[simp] theorem packetChecksumRight_done (s : State) : packetChecksumRight (done s) ↔ packetChecksumRight s := Iff.rfl
@[simp] theorem magicInPlace_done (s : State) : magicInPlace (done s) ↔ magicInPlace s := Iff.rfl
@[simp] theorem consistent_done (s : State) : consistent (done s) ↔ consistent s := Iff.rfl

/-- R154: NEW establishes all six invariants. -/
theorem consistent_of_new {a : NewArgs} {s u : State} (hs : Memory.wf s) (hr : newFieldsInRange a)
    (hu : serialise (construct .auto (loadFields a s)) = .next u) : consistent u := by
  have hwf : Memory.wf (construct .auto (loadFields a s)) := loadFields_wf hs hr
  obtain rfl := serialise_next_of_wf hwf hu
  exact consistent_serialiseWith _ hwf (addressesPacked_loadFields a s) (commandTypePacked_loadFields a s)

/-- R180: RECALC establishes all six invariants. -/
theorem consistent_of_recalc {s u : State} (hs : Memory.wf s) (hu : recalc s = .next u) : consistent u := by
  obtain rfl := recalc_next_of_wf hs hu
  exact consistent_serialiseWith (packCt (packDst (packSrc s))) hs (addressesPacked_pack s)
    (commandTypePacked_pack (packDst (packSrc s)))

theorem Completes.consistent {i : Instr} {s t : State} (h : Completes i s t) (hs : Memory.wf s)
    (hi : (∃ a, i = .new a) ∨ (writesField i = true ∧ s.mode = .auto)) : consistent t := by
  cases h with
  | accumulate ha => cases ha <;> simp [writesField] at hi
  | repack hp hr => cases hr <;> simp [writesField] at hi
  | validate hp h3 hn => simp [writesField] at hi
  | encode hp hm hu => simp [writesField] at hi
  | new hm hr hu => exact (consistent_done _).2 (consistent_of_new hs hr hu)
  | @writeAuto _ _ w _ hp hm hw hu =>
    exact (consistent_done _).2 (consistent_of_recalc (s := markChanged w) (hw.wf hs) hu)
  | writeFrozen hp hm hw => cases hw <;> simp [hm] at hi
  | decode h13 hbuf hmin hm h0 => simp [writesField] at hi

/-- R153: ENCODE establishes the invariants it does not leave to the packings, and keeps those two. -/
theorem Completes.encode_invariants {s t : State} (h : Completes .encode s t) (hs : Memory.wf s) :
    lengthsAgree t ∧ headerChecksumRight t ∧ packetChecksumRight t ∧ magicInPlace t ∧
      (addressesPacked s → addressesPacked t) ∧ (commandTypePacked s → commandTypePacked t) := by
  cases h with
  | accumulate h | repack _ h | writeAuto _ _ h _ | writeFrozen _ _ h => cases h
  | encode hp hm hu =>
    obtain rfl := serialise_next_of_wf hs hu
    obtain ⟨hlen, -, hmax, -⟩ := hs
    simp only [lengthsAgree_done, headerChecksumRight_done, packetChecksumRight_done, magicInPlace_done,
      addressesPacked_done, commandTypePacked_done]
    exact ⟨lengthsAgree_serialiseWith s hlen hmax, headerChecksumRight_serialiseWith s.pay s,
      packetChecksumRight_serialiseWith s.pay s hmax, magicInPlace_serialiseWith s.pay s, id, id⟩

/-- R150: which invariants hold after a DECODE, and of what bytes the others depend. -/
theorem Completes.decode_invariants {m : Byte} {data : List Byte} {s t : State} (h : Completes (.decode m data) s t) :
    lengthsAgree t ∧ addressesPacked t ∧ magicInPlace t ∧
      (commandTypePacked t ↔ ∃ b : Byte, data[8]? = some b ∧ b.getLsbD 4 = false) ∧
      (headerChecksumRight t ↔ data[3]? = some (checksum8 fiu (data.take 3))) ∧
      (packetChecksumRight t ↔
        data[t.length.toNat - 2]? = some (loByte (checksum16 fiu (data.take (t.length.toNat - 2)))) ∧
        data[t.length.toNat - 1]? = some (hiByte (checksum16 fiu (data.take (t.length.toNat - 2))))) := by
  cases h with
  | accumulate h | repack _ h | writeAuto _ _ h _ | writeFrozen _ _ h => cases h
  | decode h13 hbuf hmin hm h0 =>
    simp only [lengthsAgree_done, addressesPacked_done, magicInPlace_done, commandTypePacked_done,
      headerChecksumRight_done, packetChecksumRight_done, done_length, loadFrame_length]
    exact ⟨lengthsAgree_loadFrame .., addressesPacked_loadFrame .., magicInPlace_loadFrame (h0 := h0) ..,
      commandTypePacked_loadFrame_iff .., headerChecksumRight_loadFrame_iff .., packetChecksumRight_loadFrame_iff ..⟩

/-- R17: from frozen mode, an operation that constructs no packet leaves the frame store. -/
theorem Completes.raw_of_frozen {i : Instr} {s t : State} (h : Completes i s t) (hf : s.mode = .frozen)
    (hc : constructs i = false) : t.raw = s.raw ∧ t.rawLen = s.rawLen := by
  cases h with
  | accumulate ha =>
    obtain ⟨c16, c8, rfl⟩ := ha.frame
    exact ⟨rfl, rfl⟩
  | repack hp hr =>
    obtain ⟨⟨-, -, hraw, hrawLen⟩, -⟩ := hr.frame
    exact ⟨hraw, hrawLen⟩
  | validate hp h3 hn => exact ⟨rfl, rfl⟩
  | encode hp hm hu => exact absurd (hf.symm.trans hm) (by decide)
  | new hm hr hu => exact absurd hc (by simp [constructs])
  | writeAuto hp hm hw hu => exact absurd (hf.symm.trans hm) (by decide)
  | writeFrozen hp hm hw => exact hw.frame.1
  | decode h13 hbuf hmin hm h0 => exact absurd hc (by simp [constructs])

theorem constructs_of_writesField {i : Instr} (h : writesField i = true) : constructs i = false := by
  revert h
  cases i <;> simp [writesField, constructs]

/-- Settles O54: one lemma for each kind of operation. -/
theorem recalculationEstablishesInvariants : Obligations.RecalculationEstablishesInvariants := by
  intro i s t hs h hok
  have hc : Completes i s t := exec_next_ok h hok
  refine ⟨hc.consistent hs, ?_, ?_, ?_⟩
  · rintro rfl
    exact hc.encode_invariants hs
  · rintro m data rfl
    exact hc.decode_invariants
  · intro hw hf hmagic
    obtain ⟨hraw, -⟩ := hc.raw_of_frozen hf (constructs_of_writesField hw)
    rwa [magicInPlace, hraw]

/-! ### The invariant -/

/-- What `Inv` asks of the state an operation leaves with a packet present. -/
theorem inv_done_of_present {u : State} (hwf : Memory.wf (done u)) (hp : (done u).rawLen ≠ 0) (hmagic : magicInPlace u)
    (hauto : u.mode = .auto → lengthsAgree u ∧ addressesPacked u ∧ commandTypeAgrees u) : Inv (done u) :=
  ⟨hwf, by simp, fun h => absurd h hp, fun _ => hmagic, fun _ => hauto⟩

/-- Writing another `ERR` than `MalformedHex` keeps the invariant. -/
theorem Inv.raise {s : State} (h : Inv s) {e : Err} (he : e ≠ .malformedHex) : Inv (raise e s) := by
  obtain ⟨hwf, -, hblank, hmagic, hauto⟩ := h
  refine ⟨hwf, he, fun h0 => ?_, hmagic, hauto⟩
  obtain ⟨hfields, hrest⟩ := hblank h0
  exact ⟨fun f => (getField_raise f e s).trans (hfields f), hrest⟩

/-- The invariant says nothing of the bytes on the port. -/
theorem Inv.consume {s : State} (h : Inv s) (rest : List Byte) : Inv (consume rest s) := by
  obtain ⟨hwf, herr, hblank, hmagic, hauto⟩ := h
  refine ⟨hwf, herr, fun h0 => ?_, hmagic, hauto⟩
  obtain ⟨hfields, hrest⟩ := hblank h0
  exact ⟨fun f => (getField_consume f rest s).trans (hfields f), hrest⟩

theorem getField_accumulators (f : Field) (c16 : Half) (c8 : Byte) (s : State) :
    getField f { s with c16 := c16, c8 := c8 } = getField f s := by
  cases f <;> rfl

/-- The invariant says nothing of the accumulators. -/
theorem Inv.accumulators {s : State} (h : Inv s) (c16 : Half) (c8 : Byte) : Inv { s with c16 := c16, c8 := c8 } := by
  obtain ⟨hwf, herr, hblank, hmagic, hauto⟩ := h
  refine ⟨hwf, herr, fun h0 => ?_, hmagic, hauto⟩
  obtain ⟨hfields, hrest⟩ := hblank h0
  exact ⟨fun f => (getField_accumulators f c16 c8 s).trans (hfields f), hrest⟩

/-- Where all six invariants of R25 hold, so does what `Inv` asks of a packet. -/
theorem inv_done_of_consistent {u : State} (hwf : Memory.wf (done u)) (hp : (done u).rawLen ≠ 0) (h : consistent u) :
    Inv (done u) := by
  obtain ⟨hlen, haddr, hct, -, -, hmagic⟩ := h
  exact inv_done_of_present hwf hp hmagic fun _ => ⟨hlen, haddr, commandTypeAgrees_of_packed hct⟩

/-- Every operation that completes keeps the invariant. -/
theorem Completes.inv {i : Instr} {s t : State} (h : Completes i s t) (hs : Inv s) : Inv t := by
  have ⟨hwf, _, _, hmagic, hauto⟩ := hs
  have hwf' : Memory.wf t := h.wf hwf
  have hpresent := h.rawLen_ne_zero hwf
  cases h with
  | accumulate ha =>
    obtain ⟨c16, c8, rfl⟩ := ha.frame
    exact (hs.accumulators c16 c8).raise (by decide)
  | repack hp hr =>
    obtain ⟨⟨-, hpayLen, hraw, hrawLen⟩, hlength, -, ⟨hmode, -⟩, -⟩ := hr.frame
    refine inv_done_of_present hwf' (hpresent (.inr hp)) (by simpa [magicInPlace, hraw] using hmagic hp) fun hm => ?_
    obtain ⟨hlen, haddr, hct⟩ := hauto hp (hmode ▸ hm)
    exact ⟨by simpa [lengthsAgree, hlength, hrawLen, hpayLen] using hlen, hr.addressesPacked haddr,
      hr.commandTypeAgrees hct⟩
  | validate hp h3 hn => exact inv_done_of_present hwf' hp (hmagic hp) (hauto hp)
  | encode hp hm hu =>
    obtain ⟨-, haddr, hct⟩ := hauto hp hm
    obtain rfl := serialise_next_of_wf hwf hu
    obtain ⟨hlen, -, hmax, -⟩ := hwf
    exact inv_done_of_present hwf' (hpresent (.inr hp)) (magicInPlace_serialiseWith s.pay s) fun _ =>
      ⟨lengthsAgree_serialiseWith s hlen hmax, haddr, hct⟩
  | new hm hr hu => exact inv_done_of_consistent hwf' (hpresent (.inl rfl)) (consistent_of_new hwf hr hu)
  | @writeAuto _ _ w _ hp hm hw hu =>
    exact inv_done_of_consistent hwf' (hpresent (.inr hp)) (consistent_of_recalc (s := markChanged w) (hw.wf hwf) hu)
  | writeFrozen hp hm hw =>
    obtain ⟨⟨hraw, -⟩, -⟩ := hw.frame
    refine inv_done_of_present hwf' (hpresent (.inr hp)) (by simpa [magicInPlace, hraw] using hmagic hp) fun hm' => ?_
    exact absurd ((hw.mode.trans hm).symm.trans hm') (by decide)
  | decode h13 hbuf hmin hm h0 =>
    exact inv_done_of_present hwf' (hpresent (.inl rfl)) (magicInPlace_loadFrame (h0 := h0) ..) fun _ =>
      ⟨lengthsAgree_loadFrame .., addressesPacked_loadFrame .., commandTypeAgrees_loadFrame ..⟩

/-- Every operation keeps the invariant: one that fails writes an error of its own list into `ERR`. -/
theorem exec_inv {i : Instr} {s t : State} (hs : Inv s) (h : exec i s = .next t) : Inv t := by
  obtain ⟨e, he, rfl⟩ | hc := exec_next h
  · exact hs.raise fun h => malformedHex_notMem_errorsOf i (h ▸ he)
  · exact hc.inv hs

/-- With no packet present, `Inv` asks that the packet registers are blank. -/
theorem inv_of_blank {s : State} (hwf : Memory.wf s) (herr : s.err ≠ .malformedHex) (h0 : s.rawLen = 0)
    (hblank : blank s) : Inv s :=
  ⟨hwf, herr, fun _ => hblank, fun h => absurd h0 h, fun h => absurd h0 h⟩

theorem getField_reset (f : Field) : getField f State.reset = 0 := by
  cases f <;> rfl

theorem getField_heldInReset (f : Field) : getField f heldInReset = 0 := by
  cases f <;> rfl

theorem heldInReset_inv : Inv heldInReset :=
  inv_of_blank heldInReset_wf (by decide) rfl ⟨getField_heldInReset, rfl, rfl, rfl, rfl⟩

/-- Settles O56: no packet is present, and the packet registers are blank. -/
theorem resetMeetsTheInvariant : Obligations.ResetMeetsTheInvariant :=
  inv_of_blank reset_wf (by decide) rfl ⟨getField_reset, rfl, rfl, rfl, rfl⟩

/-- Settles O57: a case split on what a step can do; each operation keeps the invariant by its effect. -/
theorem stepKeepsTheInvariant : Obligations.StepKeepsTheInvariant := by
  intro s t hs h
  obtain ⟨-, rfl⟩ | ⟨-, rfl⟩ | ⟨op, rest, -, rfl⟩ | ⟨i, rest, -, hexec⟩ := step_next h
  · exact heldInReset_inv
  · exact hs
  · exact (hs.consume rest).raise (by decide)
  · exact exec_inv (hs.consume rest) hexec

end Sys2Proof.Machine
end

section
/-! PROOFS. The state an operation may write: `VALID`, the stores, the accumulators, `RAWLEN`; and the operation a step
performs. -/

namespace Sys2Proof.Machine

/-! ### Keeping the stores and the accumulators -/

theorem keepsPay_of_eq {s t : State} (h : t.pay = s.pay ∧ t.payLen = s.payLen) : keepsPay s t :=
  ⟨fun i => congrArg (Memory.read · i) h.1, h.2⟩

theorem keepsRaw_of_eq {s t : State} (h : t.raw = s.raw ∧ t.rawLen = s.rawLen) : keepsRaw s t :=
  ⟨fun i => congrArg (Memory.read · i) h.1, h.2⟩

/-- R41: an operation that completes and is neither a construction nor WRPAY leaves the payload store. -/
theorem Completes.pay {i : Instr} {s t : State} (h : Completes i s t) (hc : constructs i = false)
    (hi : ∀ data, i ≠ .wrpay data) : t.pay = s.pay ∧ t.payLen = s.payLen := by
  cases h with
  | accumulate ha =>
    obtain ⟨c16, c8, rfl⟩ := ha.frame
    exact ⟨rfl, rfl⟩
  | repack hp hr =>
    obtain ⟨⟨hpay, hpayLen, -⟩, -⟩ := hr.frame
    exact ⟨hpay, hpayLen⟩
  | validate hp h3 hn => exact ⟨rfl, rfl⟩
  | encode hp hm hu =>
    obtain ⟨-, rfl⟩ := (serialise_next s _).1 hu
    exact ⟨rfl, rfl⟩
  | new hm hr hu => exact absurd hc (by simp [constructs])
  | @writeAuto _ _ w _ hp hm hw hu =>
    obtain ⟨-, rfl⟩ := (recalc_next (markChanged w) _).1 hu
    simpa using hw.pay hi
  | writeFrozen hp hm hw => exact hw.pay hi
  | decode h13 hbuf hmin hm h0 => exact absurd hc (by simp [constructs])

/-- R40: an operation that completes and is no construction, field write or ENCODE leaves the frame store. -/
theorem Completes.raw {i : Instr} {s t : State} (h : Completes i s t) (hc : constructs i = false)
    (hw : writesField i = false) (hi : i ≠ .encode) : t.raw = s.raw ∧ t.rawLen = s.rawLen := by
  cases h with
  | accumulate ha =>
    obtain ⟨c16, c8, rfl⟩ := ha.frame
    exact ⟨rfl, rfl⟩
  | repack hp hr =>
    obtain ⟨⟨-, -, hraw, hrawLen⟩, -⟩ := hr.frame
    exact ⟨hraw, hrawLen⟩
  | validate hp h3 hn => exact ⟨rfl, rfl⟩
  | encode hp hm hu => exact absurd rfl hi
  | new hm hr hu => exact absurd hc (by simp [constructs])
  | writeAuto hp hm hwf hu => exact absurd (hw.symm.trans hwf.writesField) (by decide)
  | writeFrozen hp hm hwf => exact absurd (hw.symm.trans hwf.writesField) (by decide)
  | decode h13 hbuf hmin hm h0 => exact absurd hc (by simp [constructs])

/-- R18: a DECODE that completes leaves the accumulators. -/
theorem Completes.accumulators_of_decode {m : Byte} {data : List Byte} {s t : State}
    (h : Completes (.decode m data) s t) : keepsAccumulators s t := by
  cases h with
  | accumulate h | repack _ h | writeAuto _ _ h _ | writeFrozen _ _ h => cases h
  | decode h13 hbuf hmin hm h0 => exact ⟨rfl, rfl⟩

/-- R18: a U3 operation that completes leaves the accumulators. -/
theorem Completes.accumulators_of_repack {i : Instr} {s t : State} (h : Completes i s t)
    (hi : i ∈ [Instr.pksrc, .upksrc, .pkdst, .upkdst, .pkct, .upkct]) : keepsAccumulators s t := by
  cases h with
  | accumulate ha => cases ha <;> simp at hi
  | repack hp hr =>
    obtain ⟨-, -, hacc, -⟩ := hr.frame
    exact hacc
  | validate hp h3 hn => simp at hi
  | encode hp hm hu => simp at hi
  | new hm hr hu => simp at hi
  | writeAuto hp hm hw hu => cases hw <;> simp at hi
  | writeFrozen hp hm hw => cases hw <;> simp at hi
  | decode h13 hbuf hmin hm h0 => simp at hi

theorem not_completes_wrraw {data : List Byte} {s t : State} : ¬ Completes (.wrraw data) s t := by
  intro h
  cases h with
  | accumulate h | repack _ h | writeAuto _ _ h _ | writeFrozen _ _ h => cases h

/-- Settles O52: an error writes `ERR` alone, and for an operation that completes each clause is its own lemma. -/
theorem storesAndAccumulatorsHaveTheirWriters : Obligations.StoresAndAccumulatorsHaveTheirWriters := by
  intro i s t h
  obtain ⟨e, -, rfl⟩ | hc := exec_next h
  · exact ⟨fun _ _ => keepsPay_of_eq ⟨rfl, rfl⟩, fun _ _ _ => keepsRaw_of_eq ⟨rfl, rfl⟩, fun _ => ⟨rfl, rfl⟩⟩
  · refine ⟨fun h1 h2 => keepsPay_of_eq (hc.pay h1 h2), fun h1 h2 h3 => keepsRaw_of_eq (hc.raw h1 h2 h3), ?_⟩
    rintro (⟨m, data, rfl⟩ | ⟨data, rfl⟩ | hi)
    · exact hc.accumulators_of_decode
    · exact absurd hc not_completes_wrraw
    · exact hc.accumulators_of_repack hi

/-- Settles O53: in frozen mode neither ENCODE nor a field write reaches SERIALISE. -/
theorem frozenFrameIsNeverRewritten : Obligations.FrozenFrameIsNeverRewritten := by
  intro i s t hf h hi
  obtain ⟨e, -, rfl⟩ | hc := exec_next h
  · exact keepsRaw_of_eq ⟨rfl, rfl⟩
  · exact keepsRaw_of_eq (hc.raw_of_frozen hf hi)

/-! ### `VALID` -/

/-- R21: an operation that completes and is not VALIDATE leaves `VALID`. -/
theorem Completes.valid {i : Instr} {s t : State} (h : Completes i s t) (hi : i ≠ .validate) : t.valid = s.valid := by
  cases h with
  | accumulate ha =>
    obtain ⟨c16, c8, rfl⟩ := ha.frame
    rfl
  | repack hp hr =>
    obtain ⟨-, -, -, ⟨-, -, hvalid⟩, -⟩ := hr.frame
    exact hvalid
  | validate hp h3 hn => exact absurd rfl hi
  | encode hp hm hu =>
    obtain ⟨-, rfl⟩ := (serialise_next s _).1 hu
    rfl
  | @new a _ _ hm hr hu =>
    obtain ⟨-, rfl⟩ := (serialise_next (construct .auto (loadFields a s)) _).1 hu
    simp
  | @writeAuto _ _ w _ hp hm hw hu =>
    obtain ⟨-, rfl⟩ := (recalc_next (markChanged w) _).1 hu
    obtain ⟨-, -, hvalid, -⟩ := hw.frame
    simpa using hvalid
  | writeFrozen hp hm hw =>
    obtain ⟨-, -, hvalid, -⟩ := hw.frame
    exact hvalid
  | decode h13 hbuf hmin hm h0 => rfl

/-- R152: the flag VALIDATE writes compares both recomputed checksums with the stored registers. -/
theorem judge_recompute_valid (head body : List Byte) (s : State) :
    (judge (recompute head body s)).valid = true ↔ checksum8 fiu head = s.hcrc ∧ checksum16 fiu body = s.checksum := by
  simp [judge, recompute, checksumsMatch]

theorem Completes.validate_eq {s t : State} (h : Completes .validate s t) :
    t = done (judge (recompute (s.raw.take 3) (s.raw.take (s.rawLen.toNat - 2)) s)) := by
  cases h with
  | accumulate h | repack _ h | writeAuto _ _ h _ | writeFrozen _ _ h => cases h
  | validate hp h3 hn => rfl

/-- Settles O50: an error writes `ERR` alone; of the operations that complete only VALIDATE writes `VALID`. -/
theorem validIsWrittenByValidateOnly : Obligations.ValidIsWrittenByValidateOnly := by
  refine ⟨rfl, fun i s t h => ⟨?_, ?_⟩⟩
  · intro hi
    obtain ⟨e, -, rfl⟩ | hc := exec_next h
    · rfl
    · exact hc.valid (hi.resolve_right fun hne => hne hc.err)
  · rintro rfl hok
    rw [(exec_next_ok h hok).validate_eq, done_valid, judge_recompute_valid]

/-! ### The presence of a packet -/

/-- The operands of a WRF are in range exactly when its check names a field. -/
theorem fieldOperand_eq_none (fsel : Byte) (v : Half) :
    fieldOperand fsel v = none ↔ ¬ fieldOperandsInRange (.wrf fsel v) := by
  simp [fieldOperandsInRange, ← fieldOperand_eq_some, ← Option.ne_none_iff_exists']

theorem execWrf_absent {fsel : Byte} {v : Half} {s : State} (h0 : s.rawLen = 0) :
    (fieldOperandsInRange (.wrf fsel v) → execWrf fsel v s = .next (raise .noPacket s)) ∧
      (¬ fieldOperandsInRange (.wrf fsel v) → execWrf fsel v s = .next (raise .badOperand s)) := by
  rw [← fieldOperand_eq_none, execWrf]
  constructor
  · rintro ⟨f, hf⟩
    simp [(fieldOperand_eq_some fsel v f).2 hf, needPacket_absent _ _ h0]
  · intro hnone
    simp [hnone]

theorem execWrpay_absent {data : List Byte} {s : State} (h0 : s.rawLen = 0) :
    (fieldOperandsInRange (.wrpay data) → execWrpay data s = .next (raise .noPacket s)) ∧
      (¬ fieldOperandsInRange (.wrpay data) → execWrpay data s = .next (raise .badOperand s)) :=
  ⟨fun hfit => (if_pos hfit).trans (needPacket_absent s _ h0), fun hlong => if_neg hlong⟩

/-- R204: without a packet an operation that needs one ends with `NoPacket`, the operand check of WRF and WRPAY coming
first. -/
theorem exec_absent {i : Instr} {s : State} (hi : needsPacket i = true) (h0 : s.rawLen = 0) :
    (fieldOperandsInRange i → exec i s = .next (raise .noPacket s)) ∧
      (¬ fieldOperandsInRange i → exec i s = .next (raise .badOperand s)) := by
  have habsent (body : Result) : (True → needPacket s body = .next (raise .noPacket s)) ∧
      (¬ True → needPacket s body = .next (raise .badOperand s)) :=
    ⟨fun _ => needPacket_absent s body h0, fun h => absurd trivial h⟩
  cases i with
  | wrf fsel v => exact execWrf_absent h0
  | wrpay data => exact execWrpay_absent h0
  | pksrc => exact habsent _
  | upksrc => exact habsent _
  | pkdst => exact habsent _
  | upkdst => exact habsent _
  | pkct => exact habsent _
  | upkct => exact habsent _
  | validate => exact habsent _
  | encode => exact habsent _
  | _ => cases hi

/-- Settles O51: presence by the effects of the operations that complete, absence by the packet check. -/
theorem packetPresence : Obligations.PacketPresence := by
  refine ⟨rfl, fun i s t h hs => ⟨?_, ?_⟩, fun i s hi h0 => exec_absent hi h0⟩
  · intro hc hok
    exact (exec_next_ok h hok).rawLen_ne_zero hs (.inl hc)
  · intro hp
    obtain ⟨e, -, rfl⟩ | hc := exec_next h
    · exact hp
    · exact hc.rawLen_ne_zero hs (.inr hp)

/-! ### `ERR` -/

/-- What SERIALISE and then `done` leave does not depend on `ERR`. -/
theorem thenFinish_serialise_raise (e : Err) (s : State) :
    thenFinish (serialise (raise e s)) = thenFinish (serialise s) := by
  unfold serialise
  rw [raise_pay, raise_payLen]
  split <;> rfl

/-- The end of a field write does not depend on `ERR`. -/
theorem endWrite_raise (e : Err) (s : State) : endWrite (raise e s) = endWrite s := by
  unfold endWrite
  rw [raise_mode]
  cases s.mode with
  | auto => exact thenFinish_serialise_raise e (packCt (packDst (packSrc (markChanged s))))
  | frozen => rfl

theorem execEncode_raise (e : Err) (s : State) : execEncode (raise e s) = execEncode s := by
  unfold execEncode
  rw [raise_mode, thenFinish_serialise_raise]
  rfl

theorem execNew_raise (a : NewArgs) (e : Err) (s : State) : execNew a (raise e s) = execNew a s := by
  have hser : thenFinish (serialise (construct .auto (loadFields a (raise e s)))) =
      thenFinish (serialise (construct .auto (loadFields a s))) :=
    thenFinish_serialise_raise e (construct .auto (loadFields a s))
  unfold execNew
  rw [hser]
  rfl

theorem setField_raise (f : Field) (v : Half) (e : Err) (s : State) :
    setField f v (raise e s) = raise e (setField f v s) := by
  cases f <;> rfl

theorem execWrf_raise (fsel : Byte) (v : Half) (e : Err) (s : State) : execWrf fsel v (raise e s) = execWrf fsel v s := by
  unfold execWrf
  split
  · rfl
  · rw [setField_raise, endWrite_raise]
    rfl

theorem execWrpay_raise (data : List Byte) (e : Err) (s : State) : execWrpay data (raise e s) = execWrpay data s := by
  have hwrite : endWrite (writePay data (raise e s)) = endWrite (writePay data s) := endWrite_raise e (writePay data s)
  rw [execWrpay, hwrite]
  rfl

/-- Settles O47: every operation ends by writing `ERR`, and none reads it; those that may reach SERIALISE are the ones
whose end does not show it at once. -/
theorem errIsOverwritten : Obligations.ErrIsOverwritten := by
  intro i s e
  change exec i (raise e s) = exec i s
  cases i with
  | encode => exact execEncode_raise e s
  | new a => exact execNew_raise a e s
  | wrf fsel v => exact execWrf_raise fsel v e s
  | wrpay data => exact execWrpay_raise data e s
  | _ => rfl

/-! ### The operation a step performs -/

/-- R72: format S reads its counted operand back, with what follows it. -/
theorem formatS_encodeCounted (f : List Byte → Instr) {data : List Byte} (rest : List Byte) (h : data.length ≤ inMax) :
    formatS f (encodeCounted data ++ rest) = .instr (f data) rest := by
  rw [formatS, takeCounted_encodeCounted data rest h]

/-- R72: format W reads its selector and value back, with what follows them. -/
theorem formatW_encodeHalf (fsel : Byte) (v : Half) (rest : List Byte) :
    formatW (fsel :: encodeHalf v ++ rest) = .instr (.wrf fsel v) rest := by
  simp [encodeHalf, formatW]

/-- R72: the command of a NEW is read as its sequence ID's two bytes, then its counted payload. -/
theorem decode_encode_new (a : NewArgs) (rest : List Byte) :
    decode (encode (.new a) ++ rest) =
      formatS (fun payload => .new { a with seq := word16 (loByte a.seq) (hiByte a.seq), payload := payload })
        (encodeCounted a.payload ++ rest) := rfl

/-- R71 to R73: an operation a command can spell is what its command decodes to, and the bytes after it are left. -/
theorem decode_encode_append (i : Instr) (rest : List Byte) (h : i.wellFormed) :
    decode (encode i ++ rest) = .instr i rest := by
  cases i with
  | c16blk data => exact formatS_encodeCounted .c16blk rest h
  | c8blk data => exact formatS_encodeCounted .c8blk rest h
  | decode m data => exact formatS_encodeCounted (.decode m) rest h
  | new a =>
    rw [decode_encode_new, word16_lo_hi]
    exact formatS_encodeCounted _ rest h
  | wrf fsel v => exact formatW_encodeHalf fsel v rest
  | wrpay data => exact formatS_encodeCounted .wrpay rest h
  | wrraw data => exact formatS_encodeCounted .wrraw rest h
  | _ => rfl

theorem step_of_decode {s : State} {i : Instr} {rest : List Byte} (hrst : s.rst = false)
    (h : decode s.port = .instr i rest) : step s = exec i (consume rest s) := by
  simp [step, hrst, h]

/-- Settles O6: the step reads the port through the decoder, which reads a whole command back. -/
theorem stepPerformsDecodedOperation : Obligations.StepPerformsDecodedOperation := by
  intro s i rest hrst
  refine ⟨step_of_decode hrst, fun hwf hport => step_of_decode hrst ?_⟩
  rw [hport, decode_encode_append i rest hwf]

/-- Settles O8: the reset state is written out in R27. -/
theorem resetValues : Obligations.ResetValues :=
  ⟨getField_reset, rfl, rfl, rfl, rfl, rfl, rfl, rfl, rfl, rfl, rfl⟩

end Sys2Proof.Machine
end

section
/-! PROOFS. The inputs of an operation: no operation reads or writes the port or the reset input, for it commutes with
every change of them. -/

namespace Sys2Proof.Machine

/-- The same registers and stores, with other bytes on the port and another level of the reset input. -/
def withInputs (port : List Byte) (rst : Bool) (s : State) : State := { s with port := port, rst := rst }

/-- A change of the state an operation answers; a fault and a refusal stay. -/
def mapNext (f : State → State) : Result → Result
  | .next s => .next (f s)
  | .fault r => .fault r
  | .refused r => .refused r

section
variable (port : List Byte) (rst : Bool) (s : State)

@[simp] theorem withInputs_pay : (withInputs port rst s).pay = s.pay := rfl
@[simp] theorem withInputs_payLen : (withInputs port rst s).payLen = s.payLen := rfl
@[simp] theorem withInputs_raw : (withInputs port rst s).raw = s.raw := rfl
@[simp] theorem withInputs_rawLen : (withInputs port rst s).rawLen = s.rawLen := rfl
@[simp] theorem withInputs_mode : (withInputs port rst s).mode = s.mode := rfl

/-- The packet check does not read the inputs, so the operation does not where its body does not. -/
theorem needPacket_withInputs {body body' : Result} (h : body' = mapNext (withInputs port rst) body) :
    needPacket (withInputs port rst s) body' = mapNext (withInputs port rst) (needPacket s body) := by
  rw [h, needPacket, needPacket, withInputs_rawLen]
  split <;> rfl

theorem thenFinish_mapNext (r : Result) :
    thenFinish (mapNext (withInputs port rst) r) = mapNext (withInputs port rst) (thenFinish r) := by
  cases r <;> rfl

theorem frameLength_withInputs : frameLength (withInputs port rst s) = frameLength s := rfl

theorem frameHcrc_withInputs : frameHcrc (withInputs port rst s) = frameHcrc s := rfl

theorem frameBody_withInputs (p : List Byte) : frameBody p (withInputs port rst s) = frameBody p s := rfl

theorem frameChecksum_withInputs (p : List Byte) :
    frameChecksum p (withInputs port rst s) = frameChecksum p s := by
  rw [frameChecksum, frameBody_withInputs, frameChecksum]

/-- SERIALISE lays the frame out of the registers and the payload alone. Its four computed values are generalised, so
that comparing the two states does not evaluate a checksum. -/
theorem serialiseWith_withInputs (p : List Byte) :
    serialiseWith p (withInputs port rst s) = withInputs port rst (serialiseWith p s) := by
  unfold serialiseWith
  rw [frameLength_withInputs, frameHcrc_withInputs, frameBody_withInputs, frameChecksum_withInputs]
  generalize frameLength s = n, frameHcrc s = h, frameBody p s = f, frameChecksum p s = c
  rfl

theorem serialise_withInputs :
    serialise (withInputs port rst s) = mapNext (withInputs port rst) (serialise s) := by
  rw [serialise, serialise, withInputs_pay, withInputs_payLen]
  split
  · exact congrArg _ (serialiseWith_withInputs port rst s _)
  · rfl

/-- SERIALISE and then `done`, which end ENCODE, NEW and an auto-mode field write. -/
theorem thenFinish_serialise_withInputs :
    thenFinish (serialise (withInputs port rst s)) = mapNext (withInputs port rst) (thenFinish (serialise s)) := by
  rw [serialise_withInputs, thenFinish_mapNext]

theorem endWrite_withInputs :
    endWrite (withInputs port rst s) = mapNext (withInputs port rst) (endWrite s) := by
  rw [endWrite, endWrite, withInputs_mode]
  cases s.mode with
  | auto => exact thenFinish_serialise_withInputs port rst (packCt (packDst (packSrc (markChanged s))))
  | frozen => rfl

theorem setField_withInputs (f : Field) (v : Half) :
    setField f v (withInputs port rst s) = withInputs port rst (setField f v s) := by
  cases f <;> rfl

theorem decodeFramed_withInputs (md : Mode) (data : List Byte) (h13 : 13 ≤ data.length) :
    decodeFramed md data h13 (withInputs port rst s) =
      mapNext (withInputs port rst) (decodeFramed md data h13 s) := by
  unfold decodeFramed
  split
  · rfl
  · split
    · split <;> rfl
    · rfl

theorem execDecode_withInputs (m : Byte) (data : List Byte) :
    execDecode m data (withInputs port rst s) = mapNext (withInputs port rst) (execDecode m data s) := by
  unfold execDecode
  split
  · rfl
  · split
    · exact decodeFramed_withInputs port rst s ..
    · rfl

theorem execValidate_withInputs :
    execValidate (withInputs port rst s) = mapNext (withInputs port rst) (execValidate s) := by
  refine needPacket_withInputs port rst s ?_
  rw [withInputs_raw, withInputs_rawLen]
  split <;> rfl

theorem execEncode_withInputs :
    execEncode (withInputs port rst s) = mapNext (withInputs port rst) (execEncode s) := by
  refine needPacket_withInputs port rst s ?_
  rw [withInputs_mode]
  cases s.mode with
  | auto => exact thenFinish_serialise_withInputs port rst s
  | frozen => rfl

theorem execNew_withInputs (a : NewArgs) :
    execNew a (withInputs port rst s) = mapNext (withInputs port rst) (execNew a s) := by
  unfold execNew
  split
  · rfl
  · rename_i md _
    split
    · cases md with
      | auto => exact thenFinish_serialise_withInputs port rst (construct .auto (loadFields a s))
      | frozen => rfl
    · rfl

theorem execWrf_withInputs (fsel : Byte) (v : Half) :
    execWrf fsel v (withInputs port rst s) = mapNext (withInputs port rst) (execWrf fsel v s) := by
  unfold execWrf
  split
  · rfl
  · rw [setField_withInputs]
    exact needPacket_withInputs port rst s (endWrite_withInputs ..)

theorem execWrpay_withInputs (data : List Byte) :
    execWrpay data (withInputs port rst s) = mapNext (withInputs port rst) (execWrpay data s) := by
  unfold execWrpay
  split
  · exact needPacket_withInputs port rst s (endWrite_withInputs port rst (writePay data s))
  · rfl

/-- R44, R47: an operation commutes with a change of the inputs, whatever it answers. -/
theorem exec_withInputs (i : Instr) :
    exec i (withInputs port rst s) = mapNext (withInputs port rst) (exec i s) := by
  cases i with
  | pksrc | upksrc | pkdst | upkdst | pkct | upkct => exact needPacket_withInputs port rst s rfl
  | decode m data => exact execDecode_withInputs port rst s m data
  | validate => exact execValidate_withInputs port rst s
  | encode => exact execEncode_withInputs port rst s
  | new a => exact execNew_withInputs port rst s a
  | wrf fsel v => exact execWrf_withInputs port rst s fsel v
  | wrpay data => exact execWrpay_withInputs port rst s data
  | c16init | c16upd | c16blk | c8init | c8upd | c8blk | wrraw => rfl

end

theorem exec_withInputs_next {i : Instr} {s t : State} (h : exec i s = .next t) (port : List Byte) (rst : Bool) :
    exec i (withInputs port rst s) = .next (withInputs port rst t) := by
  rw [exec_withInputs, h, mapNext]

/-- The inputs are kept because changing them to what they are already changes the answer in nothing. -/
theorem exec_keepsInputs {i : Instr} {s t : State} (h : exec i s = .next t) : keepsInputs s t := by
  have hsame : exec i s = .next (withInputs s.port s.rst t) := exec_withInputs_next h s.port s.rst
  have ht : t = withInputs s.port s.rst t := Host.Outcome.next.inj (h.symm.trans hsame)
  rw [ht]
  exact ⟨rfl, rfl⟩

/-- Settles O7: every operation commutes with a change of the inputs, and so keeps them. -/
theorem operationsLeaveInputsAlone : Obligations.OperationsLeaveInputsAlone :=
  fun _ _ _ h => ⟨exec_keepsInputs h, exec_withInputs_next h⟩

end Sys2Proof.Machine
end

section
/-! PROOFS. The end of an operation: with the stores in their form every operation, and every step, answers a next
state. -/

namespace Sys2Proof.Machine

theorem goesOn_next (t : State) : goesOn (.next t) := ⟨t, rfl⟩

theorem goesOn_needPacket {s : State} {body : Result} (h : s.rawLen ≠ 0 → goesOn body) :
    goesOn (needPacket s body) := by
  unfold needPacket
  split
  · exact goesOn_next _
  · rename_i hp
    exact h hp

theorem goesOn_thenFinish {r : Result} (h : goesOn r) : goesOn (thenFinish r) := by
  obtain ⟨u, rfl⟩ := h
  exact goesOn_next (done u)

theorem goesOn_serialise {s : State} (hs : Memory.wf s) : goesOn (serialise s) := ⟨_, serialise_wf s hs⟩

theorem goesOn_endWrite {s : State} (hs : Memory.wf s) : goesOn (endWrite s) := by
  unfold endWrite
  split
  · exact goesOn_thenFinish (goesOn_serialise (s := packCt (packDst (packSrc (markChanged s)))) hs)
  · exact goesOn_next _

theorem goesOn_decodeFramed (md : Mode) (data : List Byte) (h13 : 13 ≤ data.length) (s : State) :
    goesOn (decodeFramed md data h13 s) := by
  unfold decodeFramed
  split
  · exact goesOn_next _
  · split
    · split <;> exact goesOn_next _
    · exact goesOn_next _

/-- DECODE reads no store, so it answers a next state from every state. -/
theorem goesOn_execDecode (m : Byte) (data : List Byte) (s : State) : goesOn (execDecode m data s) := by
  unfold execDecode
  split
  · exact goesOn_next _
  · split
    · exact goesOn_decodeFramed ..
    · exact goesOn_next _

/-- With a packet present the frame store holds at least 13 bytes, as many as `RAWLEN` says: the bytes VALIDATE reads
exist. -/
theorem goesOn_execValidate {s : State} (hs : Memory.wf s) : goesOn (execValidate s) := by
  refine goesOn_needPacket fun hp => ?_
  obtain ⟨-, hlen, -, hmin⟩ := hs
  have hpos : s.rawLen.toNat ≠ 0 := fun h0 => hp (BitVec.eq_of_toNat_eq h0)
  have h13 : 13 ≤ s.raw.length := hmin.resolve_left (hlen ▸ hpos)
  rw [(prefix_eq_some s.raw _ 3).2 ⟨by omega, rfl⟩,
    (prefix_eq_some s.raw _ (s.rawLen.toNat - 2)).2 ⟨by omega, rfl⟩]
  exact goesOn_next _

theorem goesOn_execEncode {s : State} (hs : Memory.wf s) : goesOn (execEncode s) := by
  refine goesOn_needPacket fun _ => ?_
  split
  · exact goesOn_next _
  · exact goesOn_thenFinish (goesOn_serialise hs)

theorem goesOn_execNew (a : NewArgs) {s : State} (hs : Memory.wf s) : goesOn (execNew a s) := by
  unfold execNew
  split
  · exact goesOn_next _
  · rename_i md _
    split
    · rename_i hr
      cases md with
      | frozen => exact goesOn_next _
      | auto =>
        exact goesOn_thenFinish (goesOn_serialise (s := construct .auto (loadFields a s)) (loadFields_wf hs hr))
    · exact goesOn_next _

theorem goesOn_execWrf (fsel : Byte) (v : Half) {s : State} (hs : Memory.wf s) : goesOn (execWrf fsel v s) := by
  unfold execWrf
  split
  · exact goesOn_next _
  · rename_i f hf
    exact goesOn_needPacket fun _ => goesOn_endWrite ((WritesField.wrf hf).wf hs)

theorem goesOn_execWrpay (data : List Byte) {s : State} (hs : Memory.wf s) : goesOn (execWrpay data s) := by
  unfold execWrpay
  split
  · rename_i hfit
    exact goesOn_needPacket fun _ => goesOn_endWrite (writePay_wf data s hs hfit)
  · exact goesOn_next _

/-- R40, R206: with the stores in their form no operation faults or is refused. -/
theorem goesOn_exec (i : Instr) {s : State} (hs : Memory.wf s) : goesOn (exec i s) := by
  cases i with
  | pksrc | upksrc | pkdst | upkdst | pkct | upkct => exact goesOn_needPacket fun _ => goesOn_next _
  | decode m data => exact goesOn_execDecode m data s
  | validate => exact goesOn_execValidate hs
  | encode => exact goesOn_execEncode hs
  | new a => exact goesOn_execNew a hs
  | wrf fsel v => exact goesOn_execWrf fsel v hs
  | wrpay data => exact goesOn_execWrpay data hs
  | c16init | c16upd | c16blk | c8init | c8upd | c8blk | wrraw => exact goesOn_next _

/-- Settles O58: consuming the command keeps the form of the stores, and there every operation goes on. -/
theorem noStepStops : Obligations.NoStepStops := by
  intro s hs
  unfold step
  split
  · exact goesOn_next _
  · split
    · rename_i i rest _
      exact goesOn_exec i (consume_wf rest s hs)
    · exact goesOn_next _
    · exact goesOn_next _

end Sys2Proof.Machine
end

section
/-! PROOFS. The command stream: what the decoder answers is a true account of the bytes on the port, said once; from
this and the round trip follow the unfinished command, the illegal code and the exact inverse of the encoder. -/

namespace Sys2Proof.Machine

/-! ### What the decoder can answer -/

/-- A true account of an operation code byte and the bytes after it: an operation with that code, the bytes being its
operands and the rest; a byte that is no operation's code; or the code of an operation still unfinished (R71 to R75). -/
def Reads (op : Byte) (bytes : List Byte) : Decoded → Prop
  | .instr i rest => opcode i = op ∧ i.wellFormed ∧ bytes = encodeOperands i ++ rest
  | .illegalOp op' rest => op' = op ∧ rest = bytes ∧ ∀ i, opcode i ≠ op
  | .incomplete => ∃ i, opcode i = op

theorem formatN_reads {op : Byte} {i : Instr} (bytes : List Byte) (hop : op.toNat = (opcode i).toNat)
    (hi : i.operandBytes = [] ∧ encodeOperands i = []) : Reads op bytes (formatN i bytes) := by
  obtain ⟨hdata, henc⟩ := hi
  exact ⟨BitVec.eq_of_toNat_eq hop.symm, by simp [Instr.wellFormed, hdata], by simp [henc]⟩

theorem formatB_reads {op : Byte} {f : Byte → Instr} (bytes : List Byte) (hop : ∀ b, op.toNat = (opcode (f b)).toNat)
    (hf : ∀ b, (f b).operandBytes = [] ∧ encodeOperands (f b) = [b]) : Reads op bytes (formatB f bytes) := by
  cases bytes with
  | nil => exact ⟨f 0, BitVec.eq_of_toNat_eq (hop 0).symm⟩
  | cons b rest =>
    obtain ⟨hdata, henc⟩ := hf b
    exact ⟨BitVec.eq_of_toNat_eq (hop b).symm, by simp [Instr.wellFormed, hdata], by simp [henc]⟩

/-- Format S, or the end of formats D and R, after the operand bytes `pre`. -/
theorem formatS_reads {op : Byte} {f : List Byte → Instr} (pre bytes : List Byte)
    (hop : ∀ data, op.toNat = (opcode (f data)).toNat)
    (hf : ∀ data, (f data).operandBytes = data ∧ encodeOperands (f data) = pre ++ encodeCounted data) :
    Reads op (pre ++ bytes) (formatS f bytes) := by
  unfold formatS
  split
  · rename_i data rest htake
    obtain ⟨hlen, rfl⟩ := takeCounted_eq_some bytes data rest htake
    obtain ⟨hdata, henc⟩ := hf data
    exact ⟨BitVec.eq_of_toNat_eq (hop data).symm, by rwa [Instr.wellFormed, hdata], by simp [henc]⟩
  · exact ⟨f [], BitVec.eq_of_toNat_eq (hop []).symm⟩

theorem formatD_reads {op : Byte} (bytes : List Byte) (hop : op.toNat = 0x40) : Reads op bytes (formatD bytes) := by
  cases bytes with
  | nil => exact ⟨.decode 0 [], BitVec.eq_of_toNat_eq hop.symm⟩
  | cons m tail => exact formatS_reads [m] tail (fun _ => hop) (fun _ => ⟨rfl, rfl⟩)

theorem formatW_reads {op : Byte} (bytes : List Byte) (hop : op.toNat = 0x50) : Reads op bytes (formatW bytes) := by
  unfold formatW
  split
  · exact ⟨BitVec.eq_of_toNat_eq hop.symm, by simp [Instr.wellFormed, Instr.operandBytes],
      by simp [encodeOperands, encodeHalf]⟩
  · exact ⟨.wrf 0 0, BitVec.eq_of_toNat_eq hop.symm⟩

theorem formatR_reads {op : Byte} (bytes : List Byte) (hop : op.toNat = 0x43) : Reads op bytes (formatR bytes) := by
  unfold formatR
  split
  · rename_i m version srcType srcIndex dstType dstIndex seqLo seqHi dir ack enc cmdset cmd tail
    exact formatS_reads
      [m, version, srcType, srcIndex, dstType, dstIndex, seqLo, seqHi, dir, ack, enc, cmdset, cmd] tail (fun _ => hop)
      (fun _ => ⟨rfl, by simp [encodeOperands, encodeHalf]⟩)
  · exact ⟨.new ⟨0, 0, 0, 0, 0, 0, 0, 0, 0, 0, 0, 0, []⟩, BitVec.eq_of_toNat_eq hop.symm⟩

/-- R73, R75: whatever follows an operation code byte, the decoder's answer is true of it. -/
theorem decodeOp_reads (op : Byte) (bytes : List Byte) : Reads op bytes (decodeOp op bytes) := by
  unfold decodeOp
  split
  next h => exact formatN_reads bytes h ⟨rfl, rfl⟩
  next h => exact formatB_reads bytes (fun _ => h) (fun _ => ⟨rfl, rfl⟩)
  next h => exact formatS_reads [] bytes (fun _ => h) (fun _ => ⟨rfl, rfl⟩)
  next h => exact formatN_reads bytes h ⟨rfl, rfl⟩
  next h => exact formatB_reads bytes (fun _ => h) (fun _ => ⟨rfl, rfl⟩)
  next h => exact formatS_reads [] bytes (fun _ => h) (fun _ => ⟨rfl, rfl⟩)
  next h => exact formatN_reads bytes h ⟨rfl, rfl⟩
  next h => exact formatN_reads bytes h ⟨rfl, rfl⟩
  next h => exact formatN_reads bytes h ⟨rfl, rfl⟩
  next h => exact formatN_reads bytes h ⟨rfl, rfl⟩
  next h => exact formatN_reads bytes h ⟨rfl, rfl⟩
  next h => exact formatN_reads bytes h ⟨rfl, rfl⟩
  next h => exact formatD_reads bytes h
  next h => exact formatN_reads bytes h ⟨rfl, rfl⟩
  next h => exact formatN_reads bytes h ⟨rfl, rfl⟩
  next h => exact formatR_reads bytes h
  next h => exact formatW_reads bytes h
  next h => exact formatS_reads [] bytes (fun _ => h) (fun _ => ⟨rfl, rfl⟩)
  next h => exact formatS_reads [] bytes (fun _ => h) (fun _ => ⟨rfl, rfl⟩)
  · refine ⟨rfl, rfl, fun i hi => ?_⟩
    subst hi
    cases i <;> contradiction

/-! ### The encoder and the decoder are inverse to each other -/

/-- Settles O1: the round trip, format by format. -/
theorem decodeOfEncodeGivesOperation : Obligations.DecodeOfEncodeGivesOperation :=
  decode_encode_append

theorem decode_eq_instr {bytes rest : List Byte} {i : Instr} (h : decode bytes = .instr i rest) :
    i.wellFormed ∧ bytes = encode i ++ rest := by
  cases bytes with
  | nil => cases h
  | cons op tail =>
    have hr : Reads op tail (.instr i rest) := h ▸ decodeOp_reads op tail
    obtain ⟨rfl, hwf, rfl⟩ := hr
    exact ⟨hwf, rfl⟩

/-- Settles O2: the decoder's answer is true of the bytes it read. -/
theorem decodeConsumesExactlyOneCommand : Obligations.DecodeConsumesExactlyOneCommand :=
  fun _ _ _ h => decode_eq_instr h

/-- Settles O3: each run computes. -/
theorem specCommandsDecode : Obligations.SpecCommandsDecode :=
  ⟨rfl, rfl, rfl, rfl, rfl, rfl, rfl, rfl, rfl, rfl⟩

/-! ### Illegal codes and unfinished commands -/

theorem decodeOp_of_not_opcode {op : Byte} (h : ∀ i, opcode i ≠ op) (bytes : List Byte) :
    decodeOp op bytes = .illegalOp op bytes := by
  have hr := decodeOp_reads op bytes
  cases hd : decodeOp op bytes with
  | instr i rest => exact absurd (hd ▸ hr : Reads op bytes (.instr i rest)).1 (h i)
  | illegalOp op' rest =>
    obtain ⟨rfl, rfl, -⟩ : Reads op bytes (.illegalOp op' rest) := hd ▸ hr
    rfl
  | incomplete =>
    obtain ⟨i, hi⟩ : Reads op bytes .incomplete := hd ▸ hr
    exact absurd hi (h i)

theorem step_of_illegalOp {s : State} {op : Byte} {rest : List Byte} (hrst : s.rst = false)
    (h : decode s.port = .illegalOp op rest) : step s = .next (raise .illegalOp (consume rest s)) := by
  simp [step, hrst, h]

theorem step_of_incomplete {s : State} (hrst : s.rst = false) (h : decode s.port = .incomplete) :
    step s = .next s := by
  simp [step, hrst, h]

/-- Settles O4: the nineteen codes of the table are the codes of the operations, and a byte that is none of them is
illegal. -/
theorem illegalCodeIsConsumedAlone : Obligations.IllegalCodeIsConsumedAlone := by
  refine ⟨fun s op rest hrst hport hop => ?_, rfl, by decide +kernel⟩
  have hcode : ∀ i, opcode i ≠ op := by
    rintro i rfl
    cases i <;> simp [opcode] at hop
  have hd : decode s.port = .illegalOp op rest := by
    rw [hport]
    exact decodeOp_of_not_opcode hcode rest
  exact step_of_illegalOp hrst hd

/-- No command begins with another (R71): were an operation read from a part of the command of `i`, the round
trip would read both it and `i` from the whole; and the first byte is a code, so it is not illegal. -/
theorem decode_take_encode {i : Instr} (hi : i.wellFormed) {n : Nat} (hn : n < (encode i).length) :
    decode ((encode i).take n) = .incomplete := by
  cases n with
  | zero => rfl
  | succ k =>
    have hr := decodeOp_reads (opcode i) ((encodeOperands i).take k)
    change decodeOp (opcode i) ((encodeOperands i).take k) = .incomplete
    cases hd : decodeOp (opcode i) ((encodeOperands i).take k) with
    | incomplete => rfl
    | illegalOp op rest =>
      obtain ⟨-, -, hne⟩ : Reads _ _ (.illegalOp op rest) := hd ▸ hr
      exact absurd rfl (hne i)
    | instr j rest =>
      obtain ⟨hop, hj, hpre⟩ : Reads _ _ (.instr j rest) := hd ▸ hr
      have hsplit : encode i ++ [] = encode j ++ (rest ++ (encodeOperands i).drop k) := by
        rw [List.append_nil, encode, encode, hop, List.cons_append, ← List.append_assoc, ← hpre, List.take_append_drop]
      have hij : Decoded.instr i [] = .instr j (rest ++ (encodeOperands i).drop k) := by
        rw [← decode_encode_append i [] hi, hsplit, decode_encode_append j _ hj]
      obtain ⟨-, hnil⟩ := Decoded.instr.inj hij
      have hdrop : (encodeOperands i).drop k = [] := (List.append_eq_nil_iff.1 hnil.symm).2
      have hlen : (encodeOperands i).length ≤ k := List.drop_eq_nil_iff.1 hdrop
      exact absurd hn (by simpa [encode] using hlen)

/-- Settles O5: the first bytes of a command are not yet a command; once the rest has come the whole one is read. -/
theorem unfinishedCommandWaits : Obligations.UnfinishedCommandWaits := by
  intro s i n more hrst hi hn hport
  refine ⟨step_of_incomplete hrst (hport ▸ decode_take_encode hi hn), ?_⟩
  have hwhole : (hostSend ((encode i).drop n ++ more) s).port = encode i ++ more := by
    rw [hostSend, hport, ← List.append_assoc, List.take_append_drop]
  exact step_of_decode hrst (hwhole ▸ decode_encode_append i more hi)

end Sys2Proof.Machine
end

section
/-! PROOFS. Hex strings on the host's side, the checksums of the source vector, and the field selectors. -/

namespace Sys2Proof.Machine

/-! ### Hex strings -/

theorem hexVal_hexDigit (c : HexCase) {n : Nat} (hn : n < 16) : hexVal (hexDigit c n) = some n := by
  cases c <;> interval_cases n <;> rfl

theorem hexByte_hexDigit (c : HexCase) (b : Byte) :
    hexByte (hexDigit c (b.toNat / 16)) (hexDigit c (b.toNat % 16)) = some b := by
  have hhi : b.toNat / 16 < 16 := by omega
  have hlo : b.toNat % 16 < 16 := by omega
  simp [hexByte, hexVal_hexDigit c hhi, hexVal_hexDigit c hlo, Nat.div_add_mod]

theorem hexString_cons (c : HexCase) (b : Byte) (bytes : List Byte) :
    hexString c (b :: bytes) = hexDigit c (b.toNat / 16) :: hexDigit c (b.toNat % 16) :: hexString c bytes := rfl

theorem hexBytes_hexString (c : HexCase) (bytes : List Byte) : hexBytes (hexString c bytes) = some bytes := by
  induction bytes with
  | nil => rfl
  | cons b bytes ih => simp [hexString_cons, hexBytes, hexByte_hexDigit, ih]

theorem decodeHex_hexString (c : HexCase) (m : Byte) (bytes : List Byte) :
    decodeHex m (hexString c bytes) = .ok (.decode m bytes) := by
  rw [decodeHex, hexBytes_hexString]

/-- Settles O59: digit by digit, in either letter case. -/
theorem hexRoundTrip : Obligations.HexRoundTrip :=
  ⟨decodeHex_hexString, fun m s => decodeHex_hexString Config.hexCase m s.raw⟩

/-- The twenty-two characters that are hex digits (R78). -/
def hexDigits : List Char :=
  ['0', '1', '2', '3', '4', '5', '6', '7', '8', '9', 'a', 'b', 'c', 'd', 'e', 'f', 'A', 'B', 'C', 'D', 'E', 'F']

theorem mem_hexDigits_iff (c : Char) :
    c ∈ hexDigits ↔ ('0' ≤ c ∧ c ≤ '9') ∨ ('a' ≤ c ∧ c ≤ 'f') ∨ ('A' ≤ c ∧ c ≤ 'F') := by
  simp only [hexDigits, List.mem_cons, List.not_mem_nil, or_false, Char.ext_iff, Char.le_def, UInt32.le_iff_toNat_le,
    ← UInt32.toNat_inj, Char.reduceVal, UInt32.reduceToNat]
  omega

theorem hexVal_eq_none (c : Char) : hexVal c = none ↔ c ∉ hexDigits := by
  rw [mem_hexDigits_iff]
  unfold hexVal
  split_ifs <;> simp_all

theorem hexByte_eq_none (hi lo : Char) : hexByte hi lo = none ↔ hi ∉ hexDigits ∨ lo ∉ hexDigits := by
  rw [← hexVal_eq_none, ← hexVal_eq_none, hexByte]
  cases hexVal hi <;> cases hexVal lo <;> simp

theorem hexBytes_cons_cons_eq_none (hi lo : Char) (rest : List Char) :
    hexBytes (hi :: lo :: rest) = none ↔ (hi ∉ hexDigits ∨ lo ∉ hexDigits) ∨ hexBytes rest = none := by
  rw [← hexByte_eq_none, hexBytes]
  cases hexByte hi lo <;> cases hexBytes rest <;> simp

/-- R78: what makes a hex string malformed. -/
theorem hexBytes_eq_none (str : List Char) :
    hexBytes str = none ↔ str.length % 2 = 1 ∨ ∃ c ∈ str, c ∉ hexDigits := by
  induction str using List.twoStepInduction with
  | nil => simp [hexBytes]
  | singleton c => simp [hexBytes]
  | cons_cons hi lo rest ih _ =>
    have hparity : (hi :: lo :: rest).length % 2 = rest.length % 2 := Nat.add_mod_right rest.length 2
    rw [hexBytes_cons_cons_eq_none, ih, hparity]
    simp only [List.mem_cons, exists_eq_or_imp]
    tauto

theorem decodeHex_eq_malformedHex (m : Byte) (str : List Char) :
    decodeHex m str = .error .malformedHex ↔ hexBytes str = none := by
  unfold decodeHex
  cases hexBytes str <;> simp

/-- Settles O60: the two digits of a byte at a time. -/
theorem malformedHexExactly : Obligations.MalformedHexExactly :=
  fun m str => (decodeHex_eq_malformedHex m str).trans (hexBytes_eq_none str)

/-! ### The source vector -/

/-- Settles O17: each checksum computes. -/
theorem sourceVectorChecksums : Obligations.SourceVectorChecksums := by
  unfold Obligations.SourceVectorChecksums
  decide +kernel

/-! ### Field selectors -/

theorem fieldOf_eq_none {fsel : Byte} (h : 0x10 < fsel.toNat) : fieldOf fsel = none := by
  unfold fieldOf
  split
  case h_18 => rfl
  all_goals omega

theorem execWrf_of_fieldOf_none {fsel : Byte} (h : fieldOf fsel = none) (v : Half) (s : State) :
    execWrf fsel v s = .next (raise .badOperand s) := by
  simp [execWrf, fieldOperand, h]

/-- Settles O37: the table computes, and a selector above it names no field. -/
theorem fieldSelectors : Obligations.FieldSelectors :=
  ⟨rfl, rfl, fun _ v s h => execWrf_of_fieldOf_none (fieldOf_eq_none h) v s⟩

end Sys2Proof.Machine
end

section
/-! PROOFS. The CRC-16 unit: its forms agree, its residue and its bijectivity, and its operations. The facts about one
shift of a register hold for every width and polynomial. -/

namespace Sys2Proof.Machine

/-! ### One shift of a register -/

/-- One shift of a reflected CRC register: right by one bit, the polynomial in where a 1 falls out (R91, R111). -/
def shiftOut {w : Nat} (poly c : BitVec w) : BitVec w := if c.getLsbD 0 then (c >>> 1) ^^^ poly else c >>> 1

/-- One clock of the bit-serial form: bit `i` of `b` meets bit 0 of the register (R91, R111). -/
def shiftIn {w : Nat} (poly b c : BitVec w) (i : Nat) : BitVec w :=
  if xor (c.getLsbD 0) (b.getLsbD i) then (c >>> 1) ^^^ poly else c >>> 1

theorem crc16Step_eq_iterate (k : Config) (c : Half) (b : Byte) :
    crc16Step k c b = (shiftOut k.poly16)^[8] (c ^^^ b.setWidth 16) := rfl

theorem crc16Serial_eq_foldl (k : Config) (c : Half) (b : Byte) :
    crc16Serial k c b = (List.range 8).foldl (shiftIn k.poly16 (b.setWidth 16)) c := rfl

section Shift

variable {w : Nat} (poly : BitVec w)

theorem shiftOut_xor (c d : BitVec w) : shiftOut poly (c ^^^ d) = shiftOut poly c ^^^ shiftOut poly d := by
  unfold shiftOut
  rw [BitVec.getLsbD_xor, BitVec.ushiftRight_xor_distrib]
  cases c.getLsbD 0 <;> cases d.getLsbD 0
  · rfl
  · simp [BitVec.xor_assoc]
  · simp [BitVec.xor_assoc, BitVec.xor_comm poly]
  · simp [BitVec.xor_assoc, BitVec.xor_comm poly]

theorem shiftOut_iterate_xor (n : Nat) (c d : BitVec w) :
    (shiftOut poly)^[n] (c ^^^ d) = (shiftOut poly)^[n] c ^^^ (shiftOut poly)^[n] d := by
  induction n with
  | zero => rfl
  | succ n ih => simp only [Function.iterate_succ_apply', ih, shiftOut_xor]

/-- While only zeros fall out, a shift is a plain shift. -/
theorem shiftOut_iterate_of_low_zero (n : Nat) (c : BitVec w) (h : ∀ i < n, c.getLsbD i = false) :
    (shiftOut poly)^[n] c = c >>> n := by
  induction n with
  | zero => simp
  | succ n ih =>
    have hn : (c >>> n).getLsbD 0 = false := by simp [h n]
    rw [Function.iterate_succ_apply', ih fun i hi => h i (by omega), shiftOut, hn, BitVec.shiftRight_add]
    rfl

/-- The key to the bit-serial form: the bits that have not met bit 0 yet may as well have been added before. -/
theorem shiftIn_xor_shiftRight (b c : BitVec w) (i : Nat) :
    shiftIn poly b (c ^^^ b >>> i) i = shiftOut poly c ^^^ b >>> (i + 1) := by
  unfold shiftIn shiftOut
  have hmeet : xor ((c ^^^ b >>> i).getLsbD 0) (b.getLsbD i) = c.getLsbD 0 := by simp
  rw [hmeet, BitVec.ushiftRight_xor_distrib, BitVec.shiftRight_add]
  cases c.getLsbD 0
  · rfl
  · simp [BitVec.xor_assoc, BitVec.xor_comm poly]

theorem foldl_shiftIn_eq_iterate (b c : BitVec w) (n : Nat) :
    (List.range n).foldl (shiftIn poly b) c = (shiftOut poly)^[n] (c ^^^ b) ^^^ b >>> n := by
  induction n with
  | zero => simp
  | succ n ih =>
    rw [List.range_succ, List.foldl_concat, ih, shiftIn_xor_shiftRight, Function.iterate_succ_apply']

/-- A polynomial with its top bit set marks the bit that fell out. -/
theorem shiftOut_top (h : poly.getLsbD (w - 1) = true) (c : BitVec w) :
    (shiftOut poly c).getLsbD (w - 1) = c.getLsbD 0 := by
  have hw : 0 < w := Nat.zero_lt_of_lt (BitVec.lt_of_getLsbD h)
  unfold shiftOut
  cases h0 : c.getLsbD 0 <;> simp [h, Nat.add_sub_cancel' hw]

theorem shiftOut_injective (h : poly.getLsbD (w - 1) = true) : Function.Injective (shiftOut poly) := by
  intro c d hcd
  have h0 : c.getLsbD 0 = d.getLsbD 0 := by rw [← shiftOut_top poly h, hcd, shiftOut_top poly h]
  have hrest : c >>> 1 = d >>> 1 := by
    unfold shiftOut at hcd
    rw [h0] at hcd
    split at hcd
    · exact BitVec.xor_left_inj _ |>.1 hcd
    · exact hcd
  refine BitVec.eq_of_getLsbD_eq fun i _ => ?_
  cases i with
  | zero => exact h0
  | succ i => simpa [Nat.add_comm 1 i] using congrArg (BitVec.getLsbD · i) hrest

end Shift

/-! ### The three forms of the step -/

/-- Settles O10: after eight clocks every bit of the byte has met bit 0. -/
theorem crc16SerialFormAgrees : Obligations.Crc16SerialFormAgrees := by
  intro k c b
  have hout : b.setWidth 16 >>> 8 = 0#16 := by
    ext i hi
    simp
  rw [crc16Serial_eq_foldl, foldl_shiftIn_eq_iterate, hout, BitVec.xor_zero, ← crc16Step_eq_iterate]

/-- A byte equal to the low byte clears it, and eight shifts bring the high byte down unchanged (R97 item 3). -/
theorem crc16Step_loByte (k : Config) (c : Half) : crc16Step k c (loByte c) = c >>> 8 := by
  have hlow : ∀ i < 8, (c ^^^ (loByte c).setWidth 16).getLsbD i = false := by
    intro i hi
    simp [loByte, hi, Nat.lt_trans hi]
  have hdown : (c ^^^ (loByte c).setWidth 16) >>> 8 = c >>> 8 := by
    ext i hi
    simp [loByte]
  rw [crc16Step_eq_iterate, shiftOut_iterate_of_low_zero _ 8 _ hlow, hdown]

/-- The step is linear: the low byte alone meets the polynomial (R93). -/
theorem crc16Step_eq_xor_step_zero (k : Config) (c : Half) (b : Byte) :
    crc16Step k c b = (c >>> 8) ^^^ crc16Step k 0 (loByte (c ^^^ b.setWidth 16)) := by
  have hsplit : c ^^^ b.setWidth 16 =
      (c ^^^ (loByte c).setWidth 16) ^^^ (0 ^^^ (loByte (c ^^^ b.setWidth 16)).setWidth 16) := by
    ext i hi
    by_cases h8 : i < 8
    · simp [loByte, h8, hi]
    · have hb : b.getLsbD i = false := BitVec.getLsbD_of_ge b i (by omega)
      simp [loByte, h8, hb, hi]
  rw [← crc16Step_loByte k c]
  simp only [crc16Step_eq_iterate]
  rw [← shiftOut_iterate_xor, ← hsplit]

theorem t16_eq_map : t16 = (List.range 256).map fun i => crc16Step fiu 0 (BitVec.ofNat 8 i) := by decide +kernel

theorem t16_getElem? (i : Byte) : t16[i.toNat]? = some (crc16Step fiu 0 i) := by
  rw [t16_eq_map, List.getElem?_map, List.getElem?_range i.isLt, Option.map_some, BitVec.ofNat_toNat,
    BitVec.setWidth_eq]

/-- Settles O12: the table's 256 entries compute, and the step is linear. -/
theorem crc16TableFormAgrees : Obligations.Crc16TableFormAgrees := by
  refine ⟨by rw [t16_eq_map, List.length_map, List.length_range], t16_getElem?, fun c b => ?_⟩
  rw [crc16Lookup, t16_getElem?, Option.map_some, ← crc16Step_eq_xor_step_zero]

/-! ### Residue and bijectivity -/

theorem shiftRight_8_8_eq_zero (c : Half) : c >>> 8 >>> 8 = 0 := by
  rw [← BitVec.shiftRight_add]
  exact BitVec.ushiftRight_eq_zero le_rfl

theorem hiByte_eq_loByte_shiftRight (c : Half) : hiByte c = loByte (c >>> 8) := by
  ext i hi
  simp [hiByte, loByte]

/-- Settles O14: the low byte clears the low half of the register, the high byte the rest. -/
theorem crc16ResidueIsZero : Obligations.Crc16ResidueIsZero := by
  intro data
  rw [checksum16_append, List.foldl_cons, List.foldl_cons, List.foldl_nil, crc16Step_loByte,
    hiByte_eq_loByte_shiftRight, crc16Step_loByte, shiftRight_8_8_eq_zero]

theorem crc16Step_injective (b : Byte) : Function.Injective fun c => crc16Step fiu c b :=
  fun c d h => BitVec.xor_left_inj _ |>.1 ((shiftOut_injective fiu.poly16 (by decide)).iterate 8 h)

theorem foldl_crc16Step_injective (data : List Byte) : Function.Injective fun c => data.foldl (crc16Step fiu) c := by
  induction data with
  | nil => exact fun _ _ h => h
  | cons b data ih => exact ih.comp (crc16Step_injective b)

/-- Settles O16: no bit that falls out is lost, and an injective map of a finite set is onto. -/
theorem crc16StepIsBijective : Obligations.Crc16StepIsBijective :=
  ⟨fun b => Finite.injective_iff_bijective.1 (crc16Step_injective b),
    fun data _ _ h => foldl_crc16Step_injective data h⟩

/-! ### The operations -/

theorem writesOnlyFields_done (u : State) : writesOnlyFields [] u (done u) :=
  ⟨rfl, fun f _ => getField_done f u, ⟨fun _ => rfl, rfl⟩, ⟨fun _ => rfl, rfl⟩, ⟨rfl, rfl⟩, ⟨rfl, rfl, rfl⟩, rfl,
    rfl⟩

/-- Settles O18: each operation is `done` after one write to `C16`, of a value that the agreement of the forms gives. -/
theorem c16OperationsWriteOnlyC16 : Obligations.C16OperationsWriteOnlyC16 := by
  intro s b data
  obtain ⟨-, -, htable⟩ := crc16TableFormAgrees
  have hserial : crc16Serial fiu = crc16Step fiu := funext₂ (crc16SerialFormAgrees fiu)
  refine ⟨⟨_, rfl, rfl, rfl, writesOnlyFields_done _⟩, ⟨_, rfl, htable s.c16 b, rfl, writesOnlyFields_done _⟩,
    ⟨_, rfl, ?_, rfl, writesOnlyFields_done _⟩⟩
  rw [hserial]
  rfl

/-- Bytes streamed on from any value of `C16` (R95). -/
theorem execAll_c16upd (s : State) (c : Half) (ys : List Byte) :
    execAll (ys.map .c16upd) (done { s with c16 := c }) = finish { s with c16 := ys.foldl (crc16Step fiu) c } := by
  induction ys generalizing c with
  | nil => rfl
  | cons y ys ih => exact ih (crc16Step fiu c y)

/-- Settles O20: one C16UPD after another is the fold over the bytes. -/
theorem c16StreamEqualsBlock : Obligations.C16StreamEqualsBlock := by
  intro s xs ys
  have hchain : exec (.c16blk (xs ++ ys)) s =
      finish { s with c16 := ys.foldl (crc16Step fiu) (checksum16 fiu xs) } := by
    rw [← checksum16_append]
    rfl
  exact ⟨execAll_c16upd s fiu.seed16 ys, (execAll_c16upd s (checksum16 fiu xs) ys).trans hchain.symm⟩

end Sys2Proof.Machine
end

section
/-! PROOFS. The header checksum unit: its forms agree, its residue, and its operations. A register one byte wide keeps
nothing but what went through the polynomial, so each claim is the width-8 case of the facts about one shift. -/

namespace Sys2Proof.Machine

/-! ### The three forms of the step -/

theorem crc8Step_eq_iterate (k : Config) (c b : Byte) : crc8Step k c b = (shiftOut k.poly8)^[8] (c ^^^ b) := rfl

theorem crc8Serial_eq_foldl (k : Config) (c b : Byte) :
    crc8Serial k c b = (List.range 8).foldl (shiftIn k.poly8 b) c := rfl

/-- Settles O11: after eight clocks every bit of the byte has met bit 0. -/
theorem crc8SerialFormAgrees : Obligations.Crc8SerialFormAgrees := by
  intro k c b
  have hout : b >>> 8 = 0#8 := BitVec.ushiftRight_eq_zero le_rfl
  rw [crc8Serial_eq_foldl, foldl_shiftIn_eq_iterate, hout, BitVec.xor_zero, ← crc8Step_eq_iterate]

/-- The step sees register and byte only through their sum (R113). -/
theorem crc8Step_eq_step_zero (k : Config) (c b : Byte) : crc8Step k c b = crc8Step k 0 (c ^^^ b) := by
  rw [crc8Step_eq_iterate, crc8Step_eq_iterate, BitVec.ofNat_eq_ofNat, BitVec.zero_xor]

theorem t8_eq_map : t8 = (List.range 256).map fun i => crc8Step fiu 0 (BitVec.ofNat 8 i) := by decide +kernel

theorem t8_getElem? (i : Byte) : t8[i.toNat]? = some (crc8Step fiu 0 i) := by
  rw [t8_eq_map, List.getElem?_map, List.getElem?_range i.isLt, Option.map_some, BitVec.ofNat_toNat,
    BitVec.setWidth_eq]

/-- Settles O13: the table's 256 entries compute, and the step is the entry at the sum of register and byte. -/
theorem crc8TableFormAgrees : Obligations.Crc8TableFormAgrees := by
  refine ⟨by rw [t8_eq_map, List.length_map, List.length_range], t8_getElem?, fun c b => ?_⟩
  rw [crc8Lookup, t8_getElem?, ← crc8Step_eq_step_zero]

/-! ### Residue -/

/-- A byte equal to the register clears it, and only zeros fall out of a cleared register (R117 item 2). -/
theorem crc8Step_self (k : Config) (c : Byte) : crc8Step k c c = 0 := by
  rw [crc8Step_eq_iterate, BitVec.xor_self, shiftOut_iterate_of_low_zero _ 8 _ fun _ _ => BitVec.getLsbD_zero,
    BitVec.zero_ushiftRight, BitVec.ofNat_eq_ofNat]

/-- Settles O15: the checksum byte meets a register that holds the same byte. -/
theorem crc8ResidueIsZero : Obligations.Crc8ResidueIsZero := by
  intro data
  rw [checksum8_concat, crc8Step_self]

/-! ### The operations -/

/-- Settles O19: each operation is `done` after one write to `C8`, of a value that the agreement of the forms gives. -/
theorem c8OperationsWriteOnlyC8 : Obligations.C8OperationsWriteOnlyC8 := by
  intro s b data
  obtain ⟨-, -, htable⟩ := crc8TableFormAgrees
  have hserial : crc8Serial fiu = crc8Step fiu := funext₂ (crc8SerialFormAgrees fiu)
  refine ⟨⟨_, rfl, rfl, rfl, writesOnlyFields_done _⟩, ⟨_, rfl, htable s.c8 b, rfl, writesOnlyFields_done _⟩,
    ⟨_, rfl, ?_, rfl, writesOnlyFields_done _⟩⟩
  rw [hserial]
  rfl

/-- Bytes streamed on from any value of `C8` (R115). -/
theorem execAll_c8upd (s : State) (c : Byte) (ys : List Byte) :
    execAll (ys.map .c8upd) (done { s with c8 := c }) = finish { s with c8 := ys.foldl (crc8Step fiu) c } := by
  induction ys generalizing c with
  | nil => rfl
  | cons y ys ih => exact ih (crc8Step fiu c y)

/-- Settles O21: one C8UPD after another is the fold over the bytes. -/
theorem c8StreamEqualsBlock : Obligations.C8StreamEqualsBlock := by
  intro s xs ys
  have hchain : exec (.c8blk (xs ++ ys)) s =
      finish { s with c8 := ys.foldl (crc8Step fiu) (checksum8 fiu xs) } := by
    rw [← checksum8_append]
    rfl
  exact ⟨execAll_c8upd s fiu.seed8 ys, (execAll_c8upd s (checksum8 fiu xs) ys).trans hchain.symm⟩

end Sys2Proof.Machine
end

section
/-! PROOFS. The bitfield unit: the packings and unpackings are inverse, as the numbers they are, and each operation
writes the registers it packs or unpacks and nothing else. -/

namespace Sys2Proof.Machine

/-! ### The inverse laws -/

/-- R134: an address pair is what its packing unpacks to. -/
theorem unpackAddress_packAddress (ty : BitVec 5) (ix : BitVec 3) : unpackAddress (packAddress ty ix) = (ty, ix) := by
  have hty := ty.isLt
  have htype : (unpackAddress (packAddress ty ix)).1.toNat = ty.toNat := by
    rw [unpackAddress_type_toNat, packAddress_toNat]
    omega
  have hindex : (unpackAddress (packAddress ty ix)).2.toNat = ix.toNat := by
    rw [unpackAddress_index_toNat, packAddress_toNat]
    omega
  exact Prod.ext (BitVec.eq_of_toNat_eq htype) (BitVec.eq_of_toNat_eq hindex)

/-- R134: a command-type triple is what its packing unpacks to. -/
theorem unpackCommandType_packCommandType (d : BitVec 1) (a : BitVec 2) (e : BitVec 4) :
    unpackCommandType (packCommandType d a e) = (d, a, e) := by
  have ha := a.isLt
  have he := e.isLt
  have hdir : (unpackCommandType (packCommandType d a e)).1.toNat = d.toNat := by
    rw [unpackCommandType_dir_toNat, packCommandType_toNat]
    omega
  have hack : (unpackCommandType (packCommandType d a e)).2.1.toNat = a.toNat := by
    rw [unpackCommandType_ack_toNat, packCommandType_toNat]
    omega
  have henc : (unpackCommandType (packCommandType d a e)).2.2.toNat = e.toNat := by
    rw [unpackCommandType_enc_toNat, packCommandType_toNat]
    omega
  exact Prod.ext (BitVec.eq_of_toNat_eq hdir)
    (Prod.ext (BitVec.eq_of_toNat_eq hack) (BitVec.eq_of_toNat_eq henc))

theorem packAddress_bijective : Function.Bijective fun p : BitVec 5 × BitVec 3 => packAddress p.1 p.2 :=
  Function.bijective_iff_has_inverse.2
    ⟨unpackAddress, fun p => unpackAddress_packAddress p.1 p.2, packAddress_unpackAddress⟩

theorem packCommandType_injective :
    Function.Injective fun p : BitVec 1 × BitVec 2 × BitVec 4 => packCommandType p.1 p.2.1 p.2.2 :=
  Function.LeftInverse.injective (g := unpackCommandType) fun p =>
    unpackCommandType_packCommandType p.1 p.2.1 p.2.2

/-- R132: a packed command-type byte has bit 4 clear. -/
theorem packCommandType_bit4 (d : BitVec 1) (a : BitVec 2) (e : BitVec 4) :
    (packCommandType d a e).getLsbD 4 = false :=
  (and_mask_eq_self_iff _).1 (packCommandType_and_mask d a e).symm

/-- R134: the bytes with bit 4 clear are those a triple packs to, the byte's own unpacking being the triple. -/
theorem bit4_clear_iff_packed (b : Byte) :
    b.getLsbD 4 = false ↔ ∃ (d : BitVec 1) (a : BitVec 2) (e : BitVec 4), packCommandType d a e = b := by
  constructor
  · intro hclear
    exact ⟨_, _, _, (packCommandType_unpackCommandType b).trans ((and_mask_eq_self_iff b).2 hclear).symm⟩
  · rintro ⟨d, a, e, rfl⟩
    exact packCommandType_bit4 d a e

/-- Settles O22: the sub-fields are quotients and remainders of the byte their sum makes. -/
theorem packingsAreInverse : Obligations.PackingsAreInverse :=
  ⟨unpackAddress_packAddress, unpackCommandType_packCommandType, packAddress_unpackAddress,
    packCommandType_unpackCommandType, fun b => eq_comm.trans (and_mask_eq_self_iff b), packAddress_bijective,
    packCommandType_injective, bit4_clear_iff_packed⟩

/-! ### The operations -/

/-- The field registers a U3 operation writes (R135 to R140). -/
def repackedFields : Instr → List Field
  | .pksrc => [.srcRaw]
  | .upksrc => [.srcType, .srcIndex]
  | .pkdst => [.dstRaw]
  | .upkdst => [.dstType, .dstIndex]
  | .pkct => [.ctRaw]
  | .upkct => [.ctDir, .ctAck, .ctEnc]
  | _ => []

theorem Repacks.keepsFields {i : Instr} {s u : State} (h : Repacks i s u) : keepsFields (repackedFields i) s u := by
  intro f hf
  cases h with
  | pksrc =>
    cases f with
    | srcRaw => exact absurd (by decide) hf
    | _ => rfl
  | upksrc =>
    cases f with
    | srcType | srcIndex => exact absurd (by decide) hf
    | _ => rfl
  | pkdst =>
    cases f with
    | dstRaw => exact absurd (by decide) hf
    | _ => rfl
  | upkdst =>
    cases f with
    | dstType | dstIndex => exact absurd (by decide) hf
    | _ => rfl
  | pkct =>
    cases f with
    | ctRaw => exact absurd (by decide) hf
    | _ => rfl
  | upkct =>
    cases f with
    | ctDir | ctAck | ctEnc => exact absurd (by decide) hf
    | _ => rfl

theorem Repacks.keepsInputs {i : Instr} {s u : State} (h : Repacks i s u) : keepsInputs s u := by
  cases h <;> exact ⟨rfl, rfl⟩

/-- A U3 operation that completes ends OK, having written its own registers alone. -/
theorem Repacks.writesOnlyFields {i : Instr} {s u : State} (h : Repacks i s u) :
    writesOnlyFields (repackedFields i) s (done u) := by
  obtain ⟨⟨hpay, hpayLen, hraw, hrawLen⟩, -, hacc, hstatus, -⟩ := h.frame
  exact ⟨rfl, fun f hf => (getField_done f u).trans (h.keepsFields f hf),
    ⟨fun i => congrArg (Memory.read · i) hpay, hpayLen⟩, ⟨fun i => congrArg (Memory.read · i) hraw, hrawLen⟩,
    hacc, hstatus, h.keepsInputs⟩

/-- R26: with a packet present a U3 operation completes, in either mode. -/
theorem Repacks.exec_present {i : Instr} {s u : State} (h : Repacks i s u) (hp : s.rawLen ≠ 0) :
    exec i s = .next (done u) := by
  cases h <;> exact needPacket_present s _ hp

/-- R26: without a packet a U3 operation ends with `NoPacket`, nothing but `ERR` written. -/
theorem Repacks.exec_absent {i : Instr} {s u : State} (h : Repacks i s u) (h0 : s.rawLen = 0) :
    exec i s = .next { s with err := .noPacket } := by
  cases h <;> exact needPacket_absent s _ h0

/-- Settles O23: the packet check, the registers as numbers, and the frame of the two source operations. -/
theorem sourceAddressOperations : Obligations.SourceAddressOperations := by
  refine ⟨rfl, rfl, rfl, fun s => ?_⟩
  have hpack : Repacks .pksrc s (packSrc s) := .pksrc
  have hunpack : Repacks .upksrc s (unpackSrc s.srcRaw s) := .upksrc
  exact ⟨fun h0 => ⟨hpack.exec_absent h0, hunpack.exec_absent h0⟩, fun hp =>
    ⟨⟨_, hpack.exec_present hp, packAddress_toNat s.srcType s.srcIndex, hpack.writesOnlyFields⟩,
      ⟨_, hunpack.exec_present hp, unpackAddress_type_toNat s.srcRaw, unpackAddress_index_toNat s.srcRaw,
        hunpack.writesOnlyFields⟩⟩⟩

/-- Settles O24: as the source pair, on the destination registers. -/
theorem destinationAddressOperations : Obligations.DestinationAddressOperations := by
  refine ⟨rfl, rfl, rfl, fun s => ?_⟩
  have hpack : Repacks .pkdst s (packDst s) := .pkdst
  have hunpack : Repacks .upkdst s (unpackDst s.dstRaw s) := .upkdst
  exact ⟨fun h0 => ⟨hpack.exec_absent h0, hunpack.exec_absent h0⟩, fun hp =>
    ⟨⟨_, hpack.exec_present hp, packAddress_toNat s.dstType s.dstIndex, hpack.writesOnlyFields⟩,
      ⟨_, hunpack.exec_present hp, unpackAddress_type_toNat s.dstRaw, unpackAddress_index_toNat s.dstRaw,
        hunpack.writesOnlyFields⟩⟩⟩

/-- Settles O25: the packet check, the three sub-fields as numbers, bit 4 clear because every packed byte has it so, and
the frame. -/
theorem commandTypeOperations : Obligations.CommandTypeOperations := by
  refine ⟨rfl, rfl, rfl, fun s => ?_⟩
  have hpack : Repacks .pkct s (packCt s) := .pkct
  have hunpack : Repacks .upkct s (unpackCt s.ctRaw s) := .upkct
  exact ⟨fun h0 => ⟨hpack.exec_absent h0, hunpack.exec_absent h0⟩, fun hp =>
    ⟨⟨_, hpack.exec_present hp, packCommandType_toNat s.ctDir s.ctAck s.ctEnc,
        packCommandType_bit4 s.ctDir s.ctAck s.ctEnc, hpack.writesOnlyFields⟩,
      ⟨_, hunpack.exec_present hp, unpackCommandType_dir_toNat s.ctRaw, unpackCommandType_ack_toNat s.ctRaw,
        unpackCommandType_enc_toNat s.ctRaw, hunpack.writesOnlyFields⟩⟩⟩

end Sys2Proof.Machine
end

section
/-! PROOFS. DECODE: an operand that passes its checks is a frame, laid out as R60 has it, and trailing bytes; what is
loaded is a function of the frame alone. -/

namespace Sys2Proof.Machine

/-! ### The checks -/

theorem modeOperand_of_le_one {m : Byte} (h : m.toNat ≤ 1) : ∃ md, modeOperand m = some md := by
  have h01 : m.toNat = 0 ∨ m.toNat = 1 := by omega
  obtain h0 | h1 := h01
  · exact ⟨.auto, by simp [modeOperand, h0]⟩
  · exact ⟨.frozen, by simp [modeOperand, h1]⟩

theorem execDecode_badOperand {m : Byte} (h : 1 < m.toNat) (data : List Byte) (s : State) :
    execDecode m data s = .next (raise .badOperand s) := by
  simp [execDecode, modeOperand_eq_none m h]

theorem execDecode_tooSmall {m : Byte} {md : Mode} (hm : modeOperand m = some md) {data : List Byte}
    (h : data.length < 13) (s : State) : execDecode m data s = .next (raise .tooSmall s) := by
  simp [execDecode, hm, minFrame, Nat.not_le.2 h]

theorem execDecode_framed {m : Byte} {md : Mode} (hm : modeOperand m = some md) {data : List Byte}
    (h13 : 13 ≤ data.length) (s : State) : execDecode m data s = decodeFramed md data h13 s := by
  simp [execDecode, hm, minFrame, h13]

section
variable {md : Mode} {data : List Byte} {h13 : 13 ≤ data.length} {s : State}

theorem decodeFramed_badMagic (h0 : data[0] ≠ magic) : decodeFramed md data h13 s = .next (raise .badMagic s) :=
  if_pos h0

variable (h0 : data[0] = magic)
include h0

theorem decodeFramed_lengthExceedsBuffer (h : data.length < (declaredLength data h13).toNat) :
    decodeFramed md data h13 s = .next (raise .lengthExceedsBuffer s) := by
  simp [decodeFramed, h0, Nat.not_le.2 h]

theorem decodeFramed_lengthBelowMinimum (hbuf : (declaredLength data h13).toNat ≤ data.length)
    (h : (declaredLength data h13).toNat < 13) :
    decodeFramed md data h13 s = .next (raise .lengthBelowMinimum s) := by
  simp [decodeFramed, h0, hbuf, minFrame, Nat.not_le.2 h]

theorem decodeFramed_load (hbuf : (declaredLength data h13).toNat ≤ data.length)
    (hmin : 13 ≤ (declaredLength data h13).toNat) :
    decodeFramed md data h13 s =
      .next (done (loadFrame md data (declaredVersion data h13) (declaredLength data h13) hmin hbuf s)) := by
  simp [decodeFramed, h0, hbuf, minFrame, hmin]

end

/-- R62: the declared length as a number, from frame bytes 1 and 2. -/
theorem declaredLength_toNat {data : List Byte} (h13 : 13 ≤ data.length) {b1 b2 : Byte} (h1 : data[1]? = some b1)
    (h2 : data[2]? = some b2) : (declaredLength data h13).toNat = b1.toNat + 256 * (b2.toNat % 4) := by
  obtain ⟨-, rfl⟩ := List.getElem?_eq_some_iff.1 h1
  obtain ⟨-, rfl⟩ := List.getElem?_eq_some_iff.1 h2
  exact wordLength_toNat _ _

/-- Settles O26: one lemma for each check. -/
theorem decodeChecksInOrder : Obligations.DecodeChecksInOrder := by
  intro m b1 b2 data s
  refine ⟨fun h => execDecode_badOperand h data s, fun hm hlt => ?_, fun hm h13 hne => ?_,
    fun hm h13 hmagic h1 h2 => ?_⟩ <;> obtain ⟨md, hmd⟩ := modeOperand_of_le_one hm
  · exact execDecode_tooSmall hmd hlt s
  · rw [List.getElem?_eq_getElem (by omega), ne_eq, Option.some.injEq] at hne
    exact (execDecode_framed hmd h13 s).trans (decodeFramed_badMagic hne)
  · rw [List.getElem?_eq_getElem (by omega), Option.some.injEq] at hmagic
    rw [← declaredLength_toNat h13 h1 h2]
    exact ⟨fun hlong => (execDecode_framed hmd h13 s).trans (decodeFramed_lengthExceedsBuffer hmagic hlong),
      fun hbuf hshort => (execDecode_framed hmd h13 s).trans (decodeFramed_lengthBelowMinimum hmagic hbuf hshort)⟩

/-! ### The frame on the wire -/

/-- What a frame carries after the magic byte, in the order of the layout table of R60. -/
structure Frame where
  lengthLo : Byte
  lengthHi : Byte
  hcrc     : Byte
  src      : Byte
  dst      : Byte
  seqHi    : Byte
  seqLo    : Byte
  ct       : Byte
  cmdset   : Byte
  cmd      : Byte
  payload  : List Byte
  sumLo    : Byte
  sumHi    : Byte

namespace Frame

/-- The bytes the header checksum covers. -/
def head (f : Frame) : List Byte := [magic, f.lengthLo, f.lengthHi]

/-- The bytes the whole-packet checksum covers. -/
def body (f : Frame) : List Byte :=
  f.head ++ [f.hcrc, f.src, f.dst, f.seqHi, f.seqLo, f.ct, f.cmdset, f.cmd] ++ f.payload

/-- The bytes of the frame, first byte first (R60). -/
def bytes (f : Frame) : List Byte := f.body ++ [f.sumLo, f.sumHi]

/-- The version and length word (R62). -/
def word (f : Frame) : Half := word16 f.lengthLo f.lengthHi

/-- The frame declares its own length. -/
def Fits (f : Frame) : Prop := (wordLength f.word).toNat = 13 + f.payload.length

/-- What DECODE makes of a frame: every register and both stores (R150 step 6). -/
def load (f : Frame) (md : Mode) (s : State) : State :=
  construct md <| writeRaw f.bytes <| writePay f.payload <| unpackSrc f.src <| unpackDst f.dst <| unpackCt f.ct
    { s with
      version := wordVersion f.word, length := wordLength f.word, hcrc := f.hcrc, srcRaw := f.src, dstRaw := f.dst,
      seq := word16 f.seqLo f.seqHi, ctRaw := f.ct, cmdset := f.cmdset, cmd := f.cmd,
      checksum := word16 f.sumLo f.sumHi }

theorem body_length (f : Frame) : f.body.length = 11 + f.payload.length := by
  simp [body, head]
  omega

theorem bytes_length (f : Frame) : f.bytes.length = 13 + f.payload.length := by
  simp [bytes, body_length]
  omega

/-- The 10-bit length keeps the payload of a frame to what the payload store holds. -/
theorem Fits.payload_le {f : Frame} (h : f.Fits) : f.payload.length ≤ maxPayload := by
  have := (wordLength f.word).isLt
  rw [h] at this
  simp only [maxPayload]
  omega

section
variable (f : Frame) (trailing : List Byte)

theorem thirteen_le_length : 13 ≤ (f.bytes ++ trailing).length := by
  rw [List.length_append, bytes_length]
  omega

theorem declaredLength_bytes :
    declaredLength (f.bytes ++ trailing) (f.thirteen_le_length trailing) = wordLength f.word := rfl

theorem declaredVersion_bytes :
    declaredVersion (f.bytes ++ trailing) (f.thirteen_le_length trailing) = wordVersion f.word := rfl

end

section
variable {f : Frame} (hf : f.Fits) (md : Mode) (s : State)
include hf

theorem load_payLen_toNat : (f.load md s).payLen.toNat = f.payload.length := by
  have hmax : f.payload.length ≤ 1010 := hf.payload_le
  change (BitVec.ofNat 10 f.payload.length).toNat = f.payload.length
  rw [BitVec.toNat_ofNat]
  omega

theorem load_rawLen_toNat : (f.load md s).rawLen.toNat = 13 + f.payload.length := by
  have hmax : f.payload.length ≤ 1010 := hf.payload_le
  change (BitVec.ofNat 10 f.bytes.length).toNat = 13 + f.payload.length
  rw [BitVec.toNat_ofNat, bytes_length]
  omega

end

/-- Loading from an operand that is a frame and trailing bytes is loading the frame. -/
theorem loadFrame_eq_load {f : Frame} (hf : f.Fits) (md : Mode) (trailing : List Byte) (s : State) {ver : BitVec 6}
    {len : BitVec 10} (hver : ver = wordVersion f.word) (hlen : len = wordLength f.word) (hmin : 13 ≤ len.toNat)
    (hbuf : len.toNat ≤ (f.bytes ++ trailing).length) :
    loadFrame md (f.bytes ++ trailing) ver len hmin hbuf s = f.load md s := by
  subst hver hlen
  have hbytes : f.bytes.length = (wordLength f.word).toNat := f.bytes_length.trans hf.symm
  have hlo : (wordLength f.word).toNat - 2 = f.body.length := by rw [hf, body_length]; omega
  have hhi : (wordLength f.word).toNat - 1 = f.body.length + 1 := by rw [hf, body_length]; omega
  have hraw : (f.bytes ++ trailing).take (wordLength f.word).toNat = f.bytes := List.take_left' hbytes
  have hpay : ((f.bytes ++ trailing).take ((wordLength f.word).toNat - 2)).drop payloadOffset = f.payload := by
    rw [hlo, bytes, List.append_assoc, List.take_left]
    rfl
  have hsumLo : (f.bytes ++ trailing)[(wordLength f.word).toNat - 2] = f.sumLo := by simp [bytes, hlo]
  have hsumHi : (f.bytes ++ trailing)[(wordLength f.word).toNat - 1] = f.sumHi := by simp [bytes, hhi]
  unfold loadFrame
  rw [hraw, hpay, hsumLo, hsumHi]
  rfl

/-- DECODE of a frame, with any bytes after it, from any state. -/
theorem exec_decode {f : Frame} (hf : f.Fits) {m : Byte} {md : Mode} (hm : modeOperand m = some md)
    (trailing : List Byte) (s : State) : exec (.decode m (f.bytes ++ trailing)) s = .next (done (f.load md s)) := by
  have hlen : (f.bytes ++ trailing).length = 13 + f.payload.length + trailing.length := by
    rw [List.length_append, bytes_length]
  have hbuf : (declaredLength (f.bytes ++ trailing) (f.thirteen_le_length trailing)).toNat ≤
      (f.bytes ++ trailing).length := by rw [declaredLength_bytes, hf]; omega
  have hmin : 13 ≤ (declaredLength (f.bytes ++ trailing) (f.thirteen_le_length trailing)).toNat := by
    rw [declaredLength_bytes, hf]
    omega
  have hload := (execDecode_framed hm (f.thirteen_le_length trailing) s).trans (decodeFramed_load (h0 := rfl) hbuf hmin)
  rwa [loadFrame_eq_load hf md trailing s (f.declaredVersion_bytes trailing) (f.declaredLength_bytes trailing)] at hload

end Frame

theorem exists_eq_append_two {tail : List Byte} {n : Nat} (h : n + 2 ≤ tail.length) :
    ∃ (p : List Byte) (k0 k1 : Byte) (trailing : List Byte), p.length = n ∧ tail = p ++ k0 :: k1 :: trailing :=
  ⟨tail.take n, tail[n], tail[n + 1], tail.drop (n + 2), List.length_take_of_le (by omega), by simp⟩

/-- An operand that begins with the magic byte and holds the length it declares, at least 13, is a frame and trailing
bytes. -/
theorem exists_frame {data : List Byte} (h13 : 13 ≤ data.length) (h0 : data[0] = magic)
    (hbuf : (declaredLength data h13).toNat ≤ data.length) (hmin : 13 ≤ (declaredLength data h13).toNat) :
    ∃ (f : Frame) (trailing : List Byte), f.Fits ∧ data = f.bytes ++ trailing := by
  match data with
  | b0 :: b1 :: b2 :: b3 :: b4 :: b5 :: b6 :: b7 :: b8 :: b9 :: b10 :: tail =>
    obtain rfl : b0 = magic := h0
    change (wordLength (word16 b1 b2)).toNat ≤ tail.length + 11 at hbuf
    change 13 ≤ (wordLength (word16 b1 b2)).toNat at hmin
    obtain ⟨payload, k0, k1, trailing, hpay, rfl⟩ :=
      exists_eq_append_two (tail := tail) (n := (wordLength (word16 b1 b2)).toNat - 13) (by omega)
    refine ⟨⟨b1, b2, b3, b4, b5, b6, b7, b8, b9, b10, payload, k0, k1⟩, trailing, ?_, ?_⟩
    · simp only [Frame.Fits, Frame.word]
      omega
    · simp [Frame.bytes, Frame.body, Frame.head]

/-- DECODE ends OK exactly on the operands that are a frame and trailing bytes, and then it loads the frame. -/
theorem decode_loads {m : Byte} {data : List Byte} {s t : State} (h : exec (.decode m data) s = .next t)
    (hok : t.err = .ok) :
    ∃ (md : Mode) (f : Frame) (trailing : List Byte),
      modeOperand m = some md ∧ f.Fits ∧ data = f.bytes ++ trailing ∧ t = done (f.load md s) := by
  have hc : Completes (.decode m data) s t := exec_next_ok h hok
  cases hc with
  | accumulate hi | repack _ hi | writeAuto _ _ hi _ | writeFrozen _ _ hi => cases hi
  | decode h13 hbuf hmin hm h0 =>
    obtain ⟨f, trailing, hf, rfl⟩ := exists_frame h13 h0 hbuf hmin
    exact ⟨_, f, trailing, hm, hf, rfl, Host.Outcome.next.inj (h.symm.trans (Frame.exec_decode hf hm trailing s))⟩

/-! ### What is loaded -/

/-- Settles O27: the operand is a frame, and each register is its bytes as a number. -/
theorem decodeLoadsTheFrame : Obligations.DecodeLoadsTheFrame := by
  intro s m b1 b2 b3 b4 b5 b6 b7 b8 b9 b10 k0 k1 payload trailing hm hlen
  obtain ⟨md, hmd⟩ := modeOperand_of_le_one hm
  let f : Frame := ⟨b1, b2, b3, b4, b5, b6, b7, b8, b9, b10, payload, k0, k1⟩
  have hf : f.Fits := (wordLength_toNat b1 b2).trans hlen
  have hseq : (word16 b7 b6).toNat = 256 * b6.toNat + b7.toNat := (word16_toNat b7 b6).trans (Nat.add_comm ..)
  exact ⟨_, Frame.exec_decode hf hmd trailing s, wordVersion_toNat b1 b2, hf, rfl, rfl, rfl, hseq, rfl, rfl, rfl,
    word16_toNat k0 k1, unpackAddress_type_toNat b4, unpackAddress_index_toNat b4, unpackAddress_type_toNat b5,
    unpackAddress_index_toNat b5, unpackCommandType_dir_toNat b8, unpackCommandType_ack_toNat b8,
    unpackCommandType_enc_toNat b8, rfl, Frame.load_payLen_toNat hf md s, rfl, Frame.load_rawLen_toNat hf md s,
    modeOperand_eq_some m md hmd, rfl, rfl, rfl, ⟨rfl, rfl⟩, rfl, rfl⟩

/-- The packet loaded from a frame is the same in every block. -/
theorem Frame.load_samePacket (f : Frame) (md : Mode) (s1 s2 : State) :
    samePacket (done (f.load md s1)) (done (f.load md s2)) :=
  ⟨fun g _ => by cases g <;> rfl, rfl, rfl, rfl, rfl, rfl, rfl⟩

/-- Settles O28: the operand is a frame, and the frame is loaded alike in every block. -/
theorem decodeIgnoresTheOldPacket : Obligations.DecodeIgnoresTheOldPacket := by
  intro m data s1 s2 t1 h hok
  obtain ⟨md, f, trailing, hm, hf, rfl, rfl⟩ := decode_loads h hok
  exact ⟨_, Frame.exec_decode hf hm trailing s2, rfl, f.load_samePacket md s1 s2⟩

end Sys2Proof.Machine
end

section
/-! PROOFS. VALIDATE, ENCODE and NEW: what each leaves, and what SERIALISE lays out, byte by byte. -/

namespace Sys2Proof.Machine

/-! ### VALIDATE -/

/-- R152: with a packet present whose bytes exist, VALIDATE completes. -/
theorem exec_validate_present {s : State} (hp : s.rawLen ≠ 0) (h3 : 3 ≤ s.raw.length)
    (hn : s.rawLen.toNat - 2 ≤ s.raw.length) :
    exec .validate s = .next (done (judge (recompute (s.raw.take 3) (s.raw.take (s.rawLen.toNat - 2)) s))) := by
  have hbody : exec .validate s = _ := needPacket_present s _ hp
  rw [hbody, (prefix_eq_some s.raw _ 3).2 ⟨h3, rfl⟩, (prefix_eq_some s.raw _ (s.rawLen.toNat - 2)).2 ⟨hn, rfl⟩]
  rfl

/-- With the stores in their form the bytes VALIDATE reads of a packet exist. -/
theorem exec_validate_of_wf {s : State} (hp : s.rawLen ≠ 0) (hs : Memory.wf s) :
    exec .validate s = .next (done (judge (recompute (s.raw.take 3) (s.raw.take (s.rawLen.toNat - 2)) s))) := by
  obtain ⟨-, hlen, -, hmin⟩ := hs
  have hpos : s.rawLen.toNat ≠ 0 := fun h0 => hp (BitVec.eq_of_toNat_eq h0)
  have h13 : 13 ≤ s.raw.length := hmin.resolve_left (hlen ▸ hpos)
  exact exec_validate_present hp (by omega) (by omega)

/-- Settles O29: without a packet the packet check answers; with one VALIDATE completes, its flag the comparison. The
two checksums are generalised, so that comparing states does not evaluate one. -/
theorem validateRecomputesAndCompares : Obligations.ValidateRecomputesAndCompares := by
  refine fun s => ⟨fun h0 => needPacket_absent s _ h0, fun hp hs => ?_⟩
  have hexec := exec_validate_of_wf hp hs
  have hvalid := judge_recompute_valid (s.raw.take 3) (s.raw.take (s.rawLen.toNat - 2)) s
  unfold recompute at hexec hvalid
  generalize checksum8 fiu (s.raw.take 3) = c8, checksum16 fiu (s.raw.take (s.rawLen.toNat - 2)) = c16
    at hexec hvalid ⊢
  exact ⟨_, hexec, rfl, rfl, hvalid, writesOnlyFields_done _⟩

@[simp] theorem recompute_raw (head body : List Byte) (s : State) : (recompute head body s).raw = s.raw := rfl
@[simp] theorem recompute_rawLen (head body : List Byte) (s : State) : (recompute head body s).rawLen = s.rawLen := rfl
@[simp] theorem judge_raw (s : State) : (judge s).raw = s.raw := rfl
@[simp] theorem judge_rawLen (s : State) : (judge s).rawLen = s.rawLen := rfl

/-- VALIDATE after VALIDATE: the second recomputes and compares the same values. -/
theorem validated_again (head body : List Byte) (s : State) :
    done (judge (recompute head body (done (judge (recompute head body s))))) =
      done (judge (recompute head body s)) := by
  unfold recompute
  generalize checksum8 fiu head = c8, checksum16 fiu body = c16
  rfl

/-- Settles O30: VALIDATE leaves the frame and the registers it compares with. -/
theorem validateIsIdempotent : Obligations.ValidateIsIdempotent := by
  intro s t h hok
  have hc : Completes .validate s t := exec_next_ok h hok
  cases hc with
  | accumulate hi | repack _ hi | writeAuto _ _ hi _ | writeFrozen _ _ hi => cases hi
  | validate hp h3 hn =>
    generalize hhead : s.raw.take 3 = head, hbody : s.raw.take (s.rawLen.toNat - 2) = body
    have hagain := exec_validate_present (s := done (judge (recompute head body s))) hp h3 hn
    simp only [done_raw, done_rawLen, judge_raw, judge_rawLen, recompute_raw, recompute_rawLen, hhead, hbody] at hagain
    rw [hagain, validated_again]

/-- R152: over a frame whose checksums are right VALIDATE sets `VALID`. -/
theorem validate_of_checksums_right {s : State} (hs : Memory.wf s) (hmagic : magicInPlace s)
    (hh : headerChecksumRight s) (hc : packetChecksumRight s) :
    ∃ u, exec .validate s = .next u ∧ u.err = .ok ∧ u.valid = true := by
  have hp : s.rawLen ≠ 0 := fun h0 => by
    obtain ⟨-, hlen, -⟩ := hs
    rw [h0] at hlen
    have hnil : s.raw = [] := List.eq_nil_of_length_eq_zero hlen.symm
    simp [magicInPlace, Memory.read, hnil] at hmagic
  exact ⟨_, exec_validate_of_wf hp hs, rfl, (judge_recompute_valid _ _ s).2 ⟨hh.symm, hc.symm⟩⟩

/-- Settles O55: each of the four lays out a frame with both checksums right. -/
theorem validAfterRecalculation : Obligations.ValidAfterRecalculation := by
  intro i s t hs h hok hi
  have hc : Completes i s t := exec_next_ok h hok
  have hright : magicInPlace t ∧ headerChecksumRight t ∧ packetChecksumRight t := by
    obtain rfl | hrecalc := hi
    · obtain ⟨-, hh, hp, hmagic, -⟩ := hc.encode_invariants hs
      exact ⟨hmagic, hh, hp⟩
    · obtain ⟨-, -, -, hh, hp, hmagic⟩ := hc.consistent hs hrecalc
      exact ⟨hmagic, hh, hp⟩
  obtain ⟨hmagic, hh, hp⟩ := hright
  exact validate_of_checksums_right (hc.wf hs) hmagic hh hp

/-! ### What SERIALISE lays out -/

@[simp] theorem frameLaidOut_done (s : State) : frameLaidOut (done s) ↔ frameLaidOut s := Iff.rfl

/-- The frame SERIALISE lays out of the registers and the payload `p` (R151). -/
def frameOf (p : List Byte) (s : State) : Frame where
  lengthLo := loByte (headerWord s.version (frameLength s))
  lengthHi := hiByte (headerWord s.version (frameLength s))
  hcrc := frameHcrc s
  src := s.srcRaw
  dst := s.dstRaw
  seqHi := hiByte s.seq
  seqLo := loByte s.seq
  ct := s.ctRaw
  cmdset := s.cmdset
  cmd := s.cmd
  payload := p
  sumLo := loByte (frameChecksum p s)
  sumHi := hiByte (frameChecksum p s)

theorem serialiseWith_raw_eq_bytes (p : List Byte) (s : State) : (serialiseWith p s).raw = (frameOf p s).bytes := rfl

theorem headerWord_toNat (version : BitVec 6) (length : BitVec 10) :
    (headerWord version length).toNat = 1024 * version.toNat + length.toNat := by
  have hv := version.isLt
  have hl := length.isLt
  have hversion : (version.setWidth 16 <<< 10).toNat = version.toNat <<< 10 := by
    simp only [BitVec.toNat_shiftLeft, BitVec.toNat_setWidth, Nat.shiftLeft_eq]
    omega
  have hlength : (length.setWidth 16).toNat = length.toNat := by
    rw [BitVec.toNat_setWidth]
    omega
  rw [headerWord, BitVec.toNat_or, hversion, hlength, ← Nat.shiftLeft_add_eq_or_of_lt hl, Nat.shiftLeft_eq]
  omega

theorem wordVersion_headerWord (version : BitVec 6) (length : BitVec 10) :
    wordVersion (headerWord version length) = version := by
  have := length.isLt
  apply BitVec.eq_of_toNat_eq
  rw [← word16_lo_hi (headerWord version length), wordVersion_toNat, hiByte_toNat, headerWord_toNat]
  omega

theorem wordLength_headerWord (version : BitVec 6) (length : BitVec 10) :
    wordLength (headerWord version length) = length := by
  have := length.isLt
  apply BitVec.eq_of_toNat_eq
  rw [← word16_lo_hi (headerWord version length), wordLength_toNat, loByte_toNat, hiByte_toNat, headerWord_toNat]
  omega

theorem frameOf_word (p : List Byte) (s : State) : (frameOf p s).word = headerWord s.version (frameLength s) :=
  word16_lo_hi _

/-- `PAYLEN` is the length of the payload store, which holds no more than fits (R16). -/
def PayloadCounted (s : State) : Prop := s.payLen.toNat = s.pay.length ∧ s.pay.length ≤ maxPayload

theorem payloadCounted_of_wf {s : State} (hs : Memory.wf s) : PayloadCounted s := by
  obtain ⟨hlen, -, hmax, -⟩ := hs
  exact ⟨hlen, hmax⟩

section
variable {s : State} (hs : PayloadCounted s)
include hs

theorem serialise_counted : serialise s = .next (serialiseWith s.pay s) := by
  obtain ⟨hlen, -⟩ := hs
  simp [serialise_next, hlen]

theorem frameLength_counted : (frameLength s).toNat = 13 + s.pay.length := by
  obtain ⟨hlen, hmax⟩ := hs
  rw [frameLength_toNat s (by omega), hlen]

theorem frameOf_fits : (frameOf s.pay s).Fits := by
  rw [Frame.Fits, frameOf_word, wordLength_headerWord, frameLength_counted hs]
  rfl

/-- R60, R151: SERIALISE lays the frame out byte by byte. -/
theorem frameLaidOut_serialiseWith : frameLaidOut (serialiseWith s.pay s) := by
  have hv := s.version.isLt
  have hlen : (frameLength s).toNat = 13 + s.pay.length := frameLength_counted hs
  obtain ⟨-, hmax⟩ := hs
  have hword : (headerWord s.version (frameLength s)).toNat = 1024 * s.version.toNat + (13 + s.pay.length) := by
    rw [headerWord_toNat, hlen]
  have hlo : (1024 * s.version.toNat + (13 + s.pay.length)) % 256 = (13 + s.pay.length) % 256 := by omega
  have hhi : (1024 * s.version.toNat + (13 + s.pay.length)) / 256 =
      4 * s.version.toNat + (13 + s.pay.length) / 256 := by omega
  refine ⟨serialiseWith_rawLen s.pay s hmax, hlen, ?_⟩
  simp [serialiseWith_raw, frameBody, frameHead, loByte_toNat, hiByte_toNat, hword, hlo, hhi, magic]

/-- R151: the frame laid out, both checksums right, and the accumulators holding them. -/
theorem done_serialiseWith_laidOut :
    frameLaidOut (done (serialiseWith s.pay s)) ∧ headerChecksumRight (done (serialiseWith s.pay s)) ∧
      packetChecksumRight (done (serialiseWith s.pay s)) ∧
      (done (serialiseWith s.pay s)).c8 = (done (serialiseWith s.pay s)).hcrc ∧
      (done (serialiseWith s.pay s)).c16 = (done (serialiseWith s.pay s)).checksum := by
  have hlaid : frameLaidOut (done (serialiseWith s.pay s)) := (frameLaidOut_done _).2 (frameLaidOut_serialiseWith hs)
  obtain ⟨-, hmax⟩ := hs
  refine ⟨hlaid, (headerChecksumRight_done _).2 (headerChecksumRight_serialiseWith s.pay s),
    (packetChecksumRight_done _).2 (packetChecksumRight_serialiseWith s.pay s hmax), ?_, ?_⟩
  · rw [done_c8, done_hcrc, serialiseWith_c8, serialiseWith_hcrc]
  · rw [done_c16, done_checksum, serialiseWith_c16, serialiseWith_checksum]

end

/-- SERIALISE writes three field registers (R151). -/
theorem keepsFields_serialiseWith (p : List Byte) (s : State) :
    keepsFields [.length, .hcrc, .checksum] s (serialiseWith p s) := by
  intro f hf
  cases f with
  | length | hcrc | checksum => exact absurd (by decide) hf
  | _ => rfl

/-! ### ENCODE -/

theorem exec_encode_auto {s : State} (hp : s.rawLen ≠ 0) (hm : s.mode = .auto) :
    exec .encode s = thenFinish (serialise s) := by
  have hbody : exec .encode s = _ := needPacket_present s _ hp
  rw [hbody, hm]

theorem exec_encode_frozen {s : State} (hp : s.rawLen ≠ 0) (hm : s.mode = .frozen) :
    exec .encode s = .next (raise .refused s) := by
  have hbody : exec .encode s = _ := needPacket_present s _ hp
  rw [hbody, hm]
  rfl

/-- R153: ENCODE of a packet in auto mode completes, all of the payload laid out. -/
theorem exec_encode_counted {s : State} (hs : PayloadCounted s) (hp : s.rawLen ≠ 0) (hm : s.mode = .auto) :
    exec .encode s = .next (done (serialiseWith s.pay s)) := by
  rw [exec_encode_auto hp hm, serialise_counted hs]
  rfl

/-- Settles O31: the packet check, the mode check, then what SERIALISE lays out. -/
theorem encodeSerialises : Obligations.EncodeSerialises := by
  refine fun s => ⟨fun h0 => needPacket_absent s _ h0, exec_encode_frozen, fun hp hm hs => ?_⟩
  have hcount : PayloadCounted s := payloadCounted_of_wf hs
  obtain ⟨hlaid, hh, hc, hc8, hc16⟩ := done_serialiseWith_laidOut hcount
  exact ⟨_, exec_encode_counted hcount hp hm, hlaid, hh, hc, hc8, hc16, rfl,
    fun f hf => (getField_done f _).trans (keepsFields_serialiseWith s.pay s f hf), ⟨fun _ => rfl, rfl⟩,
    ⟨rfl, rfl, rfl⟩, rfl, rfl⟩

/-- What SERIALISE reads it does not write, so a second one writes the same. The four computed values are generalised,
so that comparing the two states does not evaluate a checksum. -/
theorem serialiseWith_again (p : List Byte) (s : State) :
    done (serialiseWith p (done (serialiseWith p s))) = done (serialiseWith p s) := by
  have hlen : frameLength (done (serialiseWith p s)) = frameLength s := rfl
  have hhcrc : frameHcrc (done (serialiseWith p s)) = frameHcrc s := rfl
  have hbody : frameBody p (done (serialiseWith p s)) = frameBody p s := rfl
  have hsum : frameChecksum p (done (serialiseWith p s)) = frameChecksum p s := by
    rw [frameChecksum, hbody, frameChecksum]
  rw [serialiseWith, hlen, hhcrc, hbody, hsum, serialiseWith]
  generalize frameLength s = n, frameHcrc s = h, frameBody p s = f, frameChecksum p s = c
  rfl

/-- R153: ENCODE of what a SERIALISE left in auto mode leaves it as it is. -/
theorem exec_encode_serialised {s : State} (hs : PayloadCounted s) (hm : s.mode = .auto) :
    exec .encode (done (serialiseWith s.pay s)) = .next (done (serialiseWith s.pay s)) := by
  have hcount : PayloadCounted (done (serialiseWith s.pay s)) := hs
  obtain ⟨-, hmax⟩ := hs
  exact (exec_encode_counted hcount (rawLen_serialiseWith_ne_zero s.pay s hmax) hm).trans
    (congrArg Host.Outcome.next (serialiseWith_again s.pay s))

/-- Settles O32: ENCODE leaves what a SERIALISE left. -/
theorem encodeIsIdempotent : Obligations.EncodeIsIdempotent := by
  intro s t hs h hok
  have hc : Completes .encode s t := exec_next_ok h hok
  cases hc with
  | accumulate hi | repack _ hi | writeAuto _ _ hi _ | writeFrozen _ _ hi => cases hi
  | encode hp hm hu =>
    obtain rfl := serialise_next_of_wf hs hu
    exact exec_encode_serialised (payloadCounted_of_wf hs) hm

/-! ### NEW -/

/-- The field-set checks of NEW as the bounds of R72 and R154. -/
theorem newFieldsInRange_iff (a : NewArgs) :
    newFieldsInRange a ↔ a.version.toNat < 64 ∧ a.srcType.toNat < 32 ∧ a.srcIndex.toNat < 8 ∧ a.dstType.toNat < 32 ∧
      a.dstIndex.toNat < 8 ∧ a.dir.toNat < 2 ∧ a.ack.toNat < 4 ∧ a.enc.toNat < 16 ∧ a.payload.length ≤ 1010 := by
  simp only [newFieldsInRange, payloadFits, maxPayload]
  omega

theorem execNew_of_mode_none {a : NewArgs} (h : modeOperand a.m = none) (s : State) :
    execNew a s = .next (raise .badOperand s) := by
  simp [execNew, h]

theorem execNew_of_not_inRange {a : NewArgs} (h : ¬ newFieldsInRange a) (s : State) :
    execNew a s = .next (raise .badOperand s) := by
  unfold execNew
  split
  · rfl
  · exact if_neg h

theorem execNew_frozen {a : NewArgs} (hm : modeOperand a.m = some .frozen) (hr : newFieldsInRange a) (s : State) :
    execNew a s = .next (raise .refused s) := by
  simp only [execNew, hm, if_pos hr, endWith_eq]

theorem execNew_auto {a : NewArgs} (hm : modeOperand a.m = some .auto) (hr : newFieldsInRange a) (s : State) :
    execNew a s = thenFinish (serialise (construct .auto (loadFields a s))) := by
  simp only [execNew, hm, if_pos hr]

/-- Settles O33: the mode operand, the field-set, then the mode. -/
theorem newRefusals : Obligations.NewRefusals := by
  refine fun a s => ⟨fun h => ?_, fun h => ?_⟩
  · by_cases hm : 1 < a.m.toNat
    · exact execNew_of_mode_none (modeOperand_eq_none a.m hm) s
    · refine execNew_of_not_inRange ?_ s
      rw [newFieldsInRange_iff]
      omega
  · obtain ⟨hm, hr⟩ := h
    exact execNew_frozen (by simp [modeOperand, hm]) ((newFieldsInRange_iff a).2 hr) s

/-- R154: the packet NEW lays out. -/
def builtBy (a : NewArgs) (s : State) : State := construct .auto (loadFields a s)

/-- NEW counts its payload, whatever the stores held. -/
theorem builtBy_counted {a : NewArgs} (hr : newFieldsInRange a) (s : State) : PayloadCounted (builtBy a s) := by
  obtain ⟨-, -, -, -, -, -, -, -, hfit⟩ := hr
  have hmax : a.payload.length ≤ 1010 := hfit
  refine ⟨?_, hfit⟩
  change (BitVec.ofNat 10 a.payload.length).toNat = a.payload.length
  simp only [BitVec.toNat_ofNat]
  omega

/-- R154: in auto mode with its operands in range NEW completes in every state. -/
theorem exec_new_auto {a : NewArgs} (hm : modeOperand a.m = some .auto) (hr : newFieldsInRange a) (s : State) :
    exec (.new a) s = .next (done (serialiseWith a.payload (builtBy a s))) := by
  have hser : serialise (builtBy a s) = .next (serialiseWith a.payload (builtBy a s)) :=
    serialise_counted (builtBy_counted hr s)
  exact (execNew_auto hm hr s).trans (congrArg thenFinish hser)

/-- A value below two to the width of its register is stored whole. -/
theorem setWidth_toNat_of_lt (w : Nat) {b : Byte} (h : b.toNat < 2 ^ w) : (b.setWidth w).toNat = b.toNat := by
  rw [BitVec.toNat_setWidth, Nat.mod_eq_of_lt h]

/-- Settles O34: the fields are the operands, the rest is what SERIALISE lays out of them. -/
theorem newBuildsThePacket : Obligations.NewBuildsThePacket := by
  intro a s hm hversion hsrcType hsrcIndex hdstType hdstIndex hdir hack henc hpay
  have hr : newFieldsInRange a :=
    (newFieldsInRange_iff a).2 ⟨hversion, hsrcType, hsrcIndex, hdstType, hdstIndex, hdir, hack, henc, hpay⟩
  have hcount : PayloadCounted (builtBy a s) := builtBy_counted hr s
  obtain ⟨hlaid, hh, hc, hc8, hc16⟩ := done_serialiseWith_laidOut hcount
  obtain ⟨hlen, -⟩ := hcount
  exact ⟨_, exec_new_auto (by simp [modeOperand, hm]) hr s, setWidth_toNat_of_lt 6 hversion,
    setWidth_toNat_of_lt 5 hsrcType, setWidth_toNat_of_lt 3 hsrcIndex, setWidth_toNat_of_lt 5 hdstType,
    setWidth_toNat_of_lt 3 hdstIndex, rfl, setWidth_toNat_of_lt 1 hdir, setWidth_toNat_of_lt 2 hack,
    setWidth_toNat_of_lt 4 henc, rfl, rfl, rfl, hlen, addressesPacked_loadFields a s, commandTypePacked_loadFields a s,
    hlaid, hh, hc, hc8, hc16, rfl, rfl, rfl, rfl, rfl, rfl⟩

end Sys2Proof.Machine
end

section
/-! PROOFS. The round trips between NEW, ENCODE and DECODE: the frame SERIALISE lays out is read back register by
register, and laying out what a frame loads is the frame with both checksums right. -/

namespace Sys2Proof.Machine

/-! ### DECODE of what SERIALISE lays out -/

theorem unpackAddress_of_addressesPacked {s : State} (h : addressesPacked s) :
    unpackAddress s.srcRaw = (s.srcType, s.srcIndex) ∧ unpackAddress s.dstRaw = (s.dstType, s.dstIndex) := by
  obtain ⟨hsrc, hdst⟩ := (addressesPacked_iff s).1 h
  rw [hsrc, hdst]
  exact ⟨unpackAddress_packAddress .., unpackAddress_packAddress ..⟩

theorem unpackCommandType_of_commandTypePacked {s : State} (h : commandTypePacked s) :
    unpackCommandType s.ctRaw = (s.ctDir, s.ctAck, s.ctEnc) := by
  rw [(commandTypePacked_iff s).1 h, unpackCommandType_packCommandType]

/-- The registers read from the frame SERIALISE lays out are those it was laid out of, the sub-fields where the bytes
are packed. -/
theorem keepsFields_load_frameOf {s : State} (haddr : addressesPacked s) (hct : commandTypePacked s) (md : Mode)
    (s' : State) : keepsFields [] (serialiseWith s.pay s) ((frameOf s.pay s).load md s') := by
  obtain ⟨hsrc, hdst⟩ := unpackAddress_of_addressesPacked haddr
  have hunpack : unpackCommandType s.ctRaw = (s.ctDir, s.ctAck, s.ctEnc) := unpackCommandType_of_commandTypePacked hct
  have hversion : wordVersion (frameOf s.pay s).word = s.version := by rw [frameOf_word, wordVersion_headerWord]
  have hlength : wordLength (frameOf s.pay s).word = frameLength s := by rw [frameOf_word, wordLength_headerWord]
  have hsum : word16 (frameOf s.pay s).sumLo (frameOf s.pay s).sumHi = (serialiseWith s.pay s).checksum := by
    rw [serialiseWith_checksum]
    exact word16_lo_hi _
  intro f _
  cases f with
  | version => exact congrArg (BitVec.setWidth 16) hversion
  | length => exact congrArg (BitVec.setWidth 16) hlength
  | seq => exact word16_lo_hi s.seq
  | checksum => exact hsum
  | srcType => exact congrArg (fun p => p.1.setWidth 16) hsrc
  | srcIndex => exact congrArg (fun p => p.2.setWidth 16) hsrc
  | dstType => exact congrArg (fun p => p.1.setWidth 16) hdst
  | dstIndex => exact congrArg (fun p => p.2.setWidth 16) hdst
  | ctDir => exact congrArg (fun p => p.1.setWidth 16) hunpack
  | ctAck => exact congrArg (fun p => p.2.1.setWidth 16) hunpack
  | ctEnc => exact congrArg (fun p => p.2.2.setWidth 16) hunpack
  | hcrc | srcRaw | dstRaw | ctRaw | cmdset | cmd => rfl

/-- DECODE in auto mode of the frame SERIALISE lays out, with any bytes after it, loads that frame. -/
theorem exec_decode_serialised {s : State} (hs : PayloadCounted s) (trailing : List Byte) (s' : State) :
    exec (.decode 0 ((serialiseWith s.pay s).raw ++ trailing)) s' = .next (done ((frameOf s.pay s).load .auto s')) := by
  rw [serialiseWith_raw_eq_bytes]
  exact Frame.exec_decode (frameOf_fits hs) rfl trailing s'

/-- R155: what DECODE in auto mode loads from the frame SERIALISE lays out gives the same packet, in any block. -/
theorem samePacket_load_frameOf {s : State} (hs : PayloadCounted s) (haddr : addressesPacked s)
    (hct : commandTypePacked s) (hm : s.mode = .auto) (hch : s.changed = false) (s' : State) :
    samePacket (done (serialiseWith s.pay s)) (done ((frameOf s.pay s).load .auto s')) := by
  have hfields := keepsFields_load_frameOf haddr hct .auto s'
  have hpayLen : ((frameOf s.pay s).load .auto s').payLen = s.payLen := by
    apply BitVec.eq_of_toNat_eq
    rw [Frame.load_payLen_toNat (frameOf_fits hs)]
    obtain ⟨hlen, -⟩ := hs
    exact hlen.symm
  refine ⟨fun f hf => ?_, rfl, hpayLen, rfl, rfl, hm.symm, hch.symm⟩
  rw [getField_done, getField_done]
  exact hfields f hf

/-- Settles O35: ENCODE lays out the same frame again, and the frame NEW lays out is read back. -/
theorem newThenDecodeRoundTrip : Obligations.NewThenDecodeRoundTrip := by
  intro a s s1 s2 trailing h hok
  have hc : Completes (.new a) s s1 := exec_next_ok h hok
  cases hc with
  | accumulate hi | repack _ hi | writeAuto _ _ hi _ | writeFrozen _ _ hi => cases hi
  | new hm hr hu =>
    have hcount : PayloadCounted (builtBy a s) := builtBy_counted hr s
    obtain rfl := Host.Outcome.next.inj ((serialise_counted hcount).symm.trans hu)
    exact ⟨exec_encode_serialised hcount rfl, _, exec_decode_serialised hcount trailing s2, rfl,
      samePacket_load_frameOf hcount (addressesPacked_loadFields a s) (commandTypePacked_loadFields a s) rfl rfl s2⟩

/-! ### ENCODE of what DECODE loads -/

namespace Frame

/-- The frame with another header checksum. -/
def withHcrc (f : Frame) (hcrc : Byte) : Frame := { f with hcrc := hcrc }

/-- The frame with another whole-packet checksum. -/
def withSum (f : Frame) (sum : Half) : Frame := { f with sumLo := loByte sum, sumHi := hiByte sum }

/-- The frame with the right header checksum. -/
def headed (f : Frame) : Frame := f.withHcrc (checksum8 fiu f.head)

/-- The frame with both checksums right, the whole-packet checksum covering the header checksum. -/
def corrected (f : Frame) : Frame := f.headed.withSum (checksum16 fiu f.headed.body)

theorem withHcrc_eq_self_iff (f : Frame) (hcrc : Byte) : f.withHcrc hcrc = f ↔ f.hcrc = hcrc := by
  cases f
  simp [withHcrc, eq_comm]

theorem withSum_eq_self_iff (f : Frame) (sum : Half) : f.withSum sum = f ↔ word16 f.sumLo f.sumHi = sum := by
  rw [word16_eq_iff]
  cases f
  simp [withSum, eq_comm]

/-- A frame is its bytes: no two frames are laid out alike. -/
theorem bytes_injective : Function.Injective bytes := by
  intro f g h
  cases f
  cases g
  simp only [bytes, body, head, List.cons_append, List.nil_append, List.cons.injEq] at h
  obtain ⟨-, h1, h2, h3, h4, h5, h6, h7, h8, h9, h10, hrest⟩ := h
  obtain ⟨hpay, hsum⟩ := List.append_inj' hrest rfl
  simp_all

theorem corrected_eq_self_iff (f : Frame) :
    f.corrected = f ↔ f.hcrc = checksum8 fiu f.head ∧ word16 f.sumLo f.sumHi = checksum16 fiu f.body := by
  have hheaded : f.headed = f ↔ f.hcrc = checksum8 fiu f.head := f.withHcrc_eq_self_iff _
  have hsum (hh : f.headed = f) : f.corrected = f ↔ word16 f.sumLo f.sumHi = checksum16 fiu f.body := by
    rw [corrected, hh, withSum_eq_self_iff]
  rw [← hheaded]
  constructor
  · intro h
    have hh : f.headed = f := hheaded.2 (congrArg hcrc h).symm
    exact ⟨hh, (hsum hh).1 h⟩
  · rintro ⟨hh, h⟩
    exact (hsum hh).2 h

/-- Laid out again, a frame with any bytes after it comes out as it was exactly when there are none and both of its
checksums are right. -/
theorem corrected_bytes_eq_iff (f : Frame) (trailing : List Byte) :
    f.corrected.bytes = f.bytes ++ trailing ↔ f.bytes.length = (f.bytes ++ trailing).length ∧ f.corrected = f := by
  constructor
  · intro h
    have hlen : f.bytes.length = (f.bytes ++ trailing).length :=
      f.bytes_length.trans (f.corrected.bytes_length.symm.trans (congrArg List.length h))
    obtain rfl : trailing = [] := by simpa using hlen
    exact ⟨hlen, bytes_injective (by simpa using h)⟩
  · rintro ⟨hlen, hf⟩
    obtain rfl : trailing = [] := by simpa using hlen
    rw [hf, List.append_nil]

/-- R62: the version and length read from a word make up that word. -/
theorem headerWord_word (f : Frame) : headerWord (wordVersion f.word) (wordLength f.word) = f.word := by
  have hlo := f.lengthLo.isLt
  apply BitVec.eq_of_toNat_eq
  rw [headerWord_toNat, word, wordVersion_toNat, wordLength_toNat, word16_toNat]
  omega

section
variable {f : Frame} (hf : f.Fits) (md : Mode) (s : State)
include hf

theorem load_counted : PayloadCounted (f.load md s) := ⟨load_payLen_toNat hf md s, hf.payload_le⟩

theorem load_rawLen_ne_zero : (f.load md s).rawLen ≠ 0 := fun h0 => by
  have hlen := load_rawLen_toNat hf md s
  simp [h0] at hlen
  omega

theorem frameHead_load : frameHead (f.load md s) = f.head := by
  have hlen : frameLength (f.load md s) = wordLength f.word :=
    BitVec.eq_of_toNat_eq ((frameLength_counted (load_counted hf md s)).trans hf.symm)
  have hword : headerWord (f.load md s).version (frameLength (f.load md s)) = f.word := by
    rw [hlen]
    exact f.headerWord_word
  rw [frameHead, hword, word, loByte_word16, hiByte_word16, head]

/-- R151: before the whole-packet checksum SERIALISE lays out the frame loaded, but for the header checksum. -/
theorem frameBody_load : frameBody f.payload (f.load md s) = f.headed.body := by
  have hhcrc : frameHcrc (f.load md s) = checksum8 fiu f.head := by rw [frameHcrc, frameHead_load hf]
  have hhi : hiByte (f.load md s).seq = f.seqHi := hiByte_word16 ..
  have hlo : loByte (f.load md s).seq = f.seqLo := loByte_word16 ..
  rw [frameBody, frameHead_load hf, hhcrc, hhi, hlo]
  rfl

/-- What ENCODE lays out of the registers a frame loads: the frame, both checksums right. -/
theorem serialiseWith_load_raw : (serialiseWith f.payload (f.load md s)).raw = f.corrected.bytes := by
  rw [serialiseWith_raw, frameChecksum, frameBody_load hf]
  rfl

end

end Frame

/-- Settles O36: the frame laid out again is the frame with both checksums right. -/
theorem decodeThenEncodeRestoresIffIntact : Obligations.DecodeThenEncodeRestoresIffIntact := by
  intro data s t h hok
  obtain ⟨md, f, trailing, hm, hf, rfl, rfl⟩ := decode_loads h hok
  obtain rfl : Mode.auto = md := Option.some.inj hm
  have hraw : (serialiseWith f.payload (f.load .auto s)).raw = f.corrected.bytes :=
    Frame.serialiseWith_load_raw hf .auto s
  have hlen : (wordLength f.word).toNat = f.bytes.length := hf.trans f.bytes_length.symm
  refine ⟨_, exec_encode_counted (s := done (f.load .auto s)) (Frame.load_counted hf .auto s)
    (Frame.load_rawLen_ne_zero hf .auto s) rfl, rfl, ?_⟩
  change (serialiseWith f.payload (f.load .auto s)).raw = _ ↔ (wordLength f.word).toNat = _ ∧
    f.hcrc = checksum8 fiu f.head ∧ word16 f.sumLo f.sumHi = _
  rw [hraw, hlen, Frame.corrected_bytes_eq_iff, Frame.corrected_eq_self_iff]
  refine and_congr_right fun hl => and_congr_right fun _ => ?_
  obtain rfl : trailing = [] := by simpa using hl
  have hbody : (f.bytes ++ []).take ((f.bytes ++ []).length - 2) = f.body := by simp [Frame.bytes]
  rw [hbody]

end Sys2Proof.Machine
end

section
/-! PROOFS. The recalculation sequencer: the checks of a field write, what it leaves in each mode, and what RECALC makes
of a derived register. -/

namespace Sys2Proof.Machine

/-! ### The checks of a field write -/

theorem execWrf_of_fieldOperand_none {fsel : Byte} {v : Half} (h : fieldOperand fsel v = none) (s : State) :
    execWrf fsel v s = .next (raise .badOperand s) := by
  simp [execWrf, h]

theorem execWrf_of_fieldOperand_some {fsel : Byte} {v : Half} {f : Field} (h : fieldOperand fsel v = some f)
    (s : State) : execWrf fsel v s = needPacket s (endWrite (setField f v s)) := by
  simp [execWrf, h]

theorem fieldOperand_eq_none_of_too_wide {fsel : Byte} {f : Field} {v : Half} (hf : fieldOf fsel = some f)
    (hv : 2 ^ fieldWidth f ≤ v.toNat) : fieldOperand fsel v = none := by
  simp [fieldOperand, hf, hv]

theorem execWrpay_of_not_fits {data : List Byte} (h : ¬ payloadFits data) (s : State) :
    execWrpay data s = .next (raise .badOperand s) :=
  if_neg h

/-- R181, R182: with its operands in range a field write needs a packet, writes its register or store, and ends. -/
theorem WritesField.exec_eq {i : Instr} {s w : State} (h : WritesField i s w) :
    exec i s = needPacket s (endWrite w) := by
  cases h with
  | wrf hf => exact execWrf_of_fieldOperand_some hf s
  | wrpay hfit => exact if_pos hfit

theorem writesField_wrf {fsel : Byte} {f : Field} {v : Half} (hf : fieldOf fsel = some f)
    (hv : v.toNat < 2 ^ fieldWidth f) (s : State) : WritesField (.wrf fsel v) s (setField f v s) :=
  .wrf ((fieldOperand_eq_some fsel v f).2 ⟨hf, hv⟩)

theorem WritesField.exec_absent {i : Instr} {s w : State} (h : WritesField i s w) (h0 : s.rawLen = 0) :
    exec i s = .next (raise .noPacket s) :=
  h.exec_eq.trans (needPacket_absent s _ h0)

/-- Settles O38: the operand checks, then the packet check. -/
theorem fieldWriteRefusals : Obligations.FieldWriteRefusals := fun _ _ _ _ s =>
  ⟨fun hf hv => execWrf_of_fieldOperand_none (fieldOperand_eq_none_of_too_wide hf hv) s,
    fun hf hv => (writesField_wrf hf hv s).exec_absent,
    fun hlong => execWrpay_of_not_fits (Nat.not_le.2 hlong) s,
    fun hfit => (WritesField.wrpay hfit).exec_absent⟩

/-! ### A frozen field write -/

/-- R237: in frozen mode a field write leaves what it wrote, with `CHANGED` set. -/
theorem WritesField.exec_frozen {i : Instr} {s w : State} (h : WritesField i s w) (hp : s.rawLen ≠ 0)
    (hm : s.mode = .frozen) : exec i s = .next (done (markChanged w)) := by
  rw [h.exec_eq, needPacket_present s _ hp, endWrite_next]
  exact .inl ⟨h.mode.trans hm, rfl⟩

/-- Settles O39: the register written is read back, and the write leaves every other register and all other state. -/
theorem frozenWrfWritesOneRegister : Obligations.FrozenWrfWritesOneRegister := by
  intro fsel f v s hf hv hp hm
  refine ⟨_, (writesField_wrf hf hv s).exec_frozen hp hm, ?_, rfl, rfl, fun g hg => ?_, ?_⟩
  · rw [getField_done, getField_markChanged, getField_setField_same f v s hv]
  · rw [getField_done, getField_markChanged, getField_setField_ne f g v s (List.ne_of_not_mem_cons hg)]
    exact (getField_markChanged g s).symm
  · simp [keepsPay, keepsRaw, keepsAccumulators, keepsStatus, keepsInputs]

/-- `PAY <- p` counts a payload that fits, whatever the stores held. -/
theorem payloadCounted_writePay {p : List Byte} (h : payloadFits p) (s : State) : PayloadCounted (writePay p s) := by
  have hmax : p.length ≤ 1010 := h
  refine ⟨?_, h⟩
  rw [writePay_payLen, writePay_pay, BitVec.toNat_ofNat]
  omega

/-- Settles O42: the payload store and `CHANGED` are written, and no field register is. -/
theorem frozenWrpayWritesPayloadOnly : Obligations.FrozenWrpayWritesPayloadOnly := by
  intro data s hfit hp hm
  obtain ⟨hlen, -⟩ := payloadCounted_writePay hfit s
  refine ⟨_, (WritesField.wrpay hfit).exec_frozen hp hm, rfl, hlen, rfl, rfl, fun f _ => ?_, ⟨fun _ => rfl, rfl⟩,
    ⟨rfl, rfl⟩, rfl, rfl, rfl, rfl⟩
  rw [getField_done, getField_markChanged, getField_writePay]

/-! ### An auto-mode field write -/

/-- R180: the three packed bytes rebuilt, which RECALC does before SERIALISE. -/
def repacked (s : State) : State := packCt (packDst (packSrc s))

theorem recalc_eq_serialise (s : State) : recalc s = serialise (repacked s) := rfl

/-- R180: what a field write leaves in auto mode, from the state it has written. -/
def recalculated (w : State) : State := done (serialiseWith w.pay (repacked (markChanged w)))

theorem keepsFields_repacked (s : State) : keepsFields [.srcRaw, .dstRaw, .ctRaw] s (repacked s) := by
  intro f hf
  cases f with
  | srcRaw | dstRaw | ctRaw => exact absurd (by decide) hf
  | _ => rfl

/-- R181: RECALC writes no register that is not derived. -/
theorem keepsFields_recalculated (w : State) : keepsFields derivedFields w (recalculated w) := by
  intro f hf
  simp only [derivedFields, List.mem_cons, not_or] at hf
  have hlaid : f ∉ [Field.length, .hcrc, .checksum] := by simp [hf]
  have hpacked : f ∉ [Field.srcRaw, .dstRaw, .ctRaw] := by simp [hf]
  rw [recalculated, getField_done, keepsFields_serialiseWith _ _ f hlaid, keepsFields_repacked _ f hpacked,
    getField_markChanged]

theorem endWrite_auto {w : State} (hw : PayloadCounted w) (hm : w.mode = .auto) :
    endWrite w = .next (recalculated w) := by
  have hser : recalc (markChanged w) = .next (serialiseWith w.pay (repacked (markChanged w))) :=
    (recalc_eq_serialise _).trans (serialise_counted (s := repacked (markChanged w)) hw)
  exact (endWrite_next w _).2 (.inr ⟨hm, _, hser, rfl⟩)

section
variable {i : Instr} {s w : State} (h : WritesField i s w) (hp : s.rawLen ≠ 0) (hm : s.mode = .auto)
  (hw : PayloadCounted w)
include h hp hm hw

theorem WritesField.exec_auto : exec i s = .next (recalculated w) :=
  h.exec_eq.trans ((needPacket_present s _ hp).trans (endWrite_auto hw (h.mode.trans hm)))

/-- R180 to R182: what every field write in auto mode leaves, the registers written apart. -/
theorem WritesField.recalculates :
    addressesPacked (recalculated w) ∧ commandTypePacked (recalculated w) ∧ frameLaidOut (recalculated w) ∧
      headerChecksumRight (recalculated w) ∧ packetChecksumRight (recalculated w) ∧
      (recalculated w).c8 = (recalculated w).hcrc ∧ (recalculated w).c16 = (recalculated w).checksum ∧
      (recalculated w).changed = true ∧ (recalculated w).mode = .auto ∧ (recalculated w).valid = s.valid ∧
      (recalculated w).err = .ok ∧ keepsInputs s (recalculated w) := by
  obtain ⟨hlaid, hh, hc, hc8, hc16⟩ := done_serialiseWith_laidOut (s := repacked (markChanged w)) hw
  obtain ⟨-, -, hvalid, -⟩ := h.frame
  exact ⟨addressesPacked_pack (markChanged w), commandTypePacked_pack (packDst (packSrc (markChanged w))), hlaid, hh,
    hc, hc8, hc16, rfl, h.mode.trans hm, hvalid, rfl, exec_keepsInputs (h.exec_auto hp hm hw)⟩

end

/-- Settles O40: RECALC keeps the register written unless it is derived, and no other register was written. -/
theorem autoWrfRecalculates : Obligations.AutoWrfRecalculates := by
  intro fsel f v s hf hv hp hm hs
  have hwrite : WritesField (.wrf fsel v) s (setField f v s) := writesField_wrf hf hv s
  have hcount : PayloadCounted (setField f v s) := payloadCounted_of_wf (hwrite.wf hs)
  have hkeeps : keepsFields derivedFields (setField f v s) (recalculated (setField f v s)) :=
    keepsFields_recalculated _
  refine ⟨_, hwrite.exec_auto hp hm hcount, fun hd => ?_, fun g hg => ?_, keepsPay_of_eq ?_,
    hwrite.recalculates hp hm hcount⟩
  · exact (hkeeps f hd).trans (getField_setField_same f v s hv)
  · obtain ⟨hne, hd⟩ := List.ne_and_not_mem_of_not_mem_cons hg
    exact (hkeeps g hd).trans (getField_setField_ne f g v s hne)
  · exact ⟨setField_pay f v s, setField_payLen f v s⟩

/-- Settles O43: the payload written is counted, so SERIALISE lays all of it out. -/
theorem autoWrpayRecalculates : Obligations.AutoWrpayRecalculates := by
  intro data s hfit hp hm
  have hwrite : WritesField (.wrpay data) s (writePay data s) := .wrpay hfit
  have hcount : PayloadCounted (writePay data s) := payloadCounted_writePay hfit s
  have hlength : (recalculated (writePay data s)).length.toNat = 13 + data.length :=
    frameLength_counted (s := repacked (markChanged (writePay data s))) hcount
  have hpayLen : (writePay data s).payLen.toNat = data.length := hcount.left
  refine ⟨_, hwrite.exec_auto hp hm hcount, rfl, hpayLen, hlength, fun f hf => ?_, hwrite.recalculates hp hm hcount⟩
  rw [keepsFields_recalculated _ f hf, getField_writePay]

/-! ### A write to a derived register -/

/-- SERIALISE writes `LENGTH`, `HCRC` and `CHECKSUM` without reading them: no value it computes depends on them. -/
theorem serialiseWith_overwrites (p : List Byte) (n : BitVec 10) (h : Byte) (c : Half) (s : State) :
    serialiseWith p { s with length := n, hcrc := h, checksum := c } = serialiseWith p s := by
  have hsum : frameChecksum p { s with length := n, hcrc := h, checksum := c } = frameChecksum p s := rfl
  have hlen : frameLength { s with length := n, hcrc := h, checksum := c } = frameLength s := rfl
  have hhcrc : frameHcrc { s with length := n, hcrc := h, checksum := c } = frameHcrc s := rfl
  have hbody : frameBody p { s with length := n, hcrc := h, checksum := c } = frameBody p s := rfl
  rw [serialiseWith, hlen, hhcrc, hbody, hsum, serialiseWith]

theorem serialise_overwrites (n : BitVec 10) (h : Byte) (c : Half) (s : State) :
    serialise { s with length := n, hcrc := h, checksum := c } = serialise s := by
  unfold serialise
  simp only [serialiseWith_overwrites]

/-- R181, R236: RECALC makes the same of a state whatever a derived register of it holds: it packs three of them from
their sub-fields, and SERIALISE writes the other three. -/
theorem recalc_setField_derived {f : Field} (hf : f ∈ derivedFields) (v : Half) (s : State) :
    recalc (setField f v s) = recalc s := by
  cases f with
  | srcRaw | dstRaw | ctRaw => rfl
  | length => exact serialise_overwrites (v.extractLsb' 0 10) s.hcrc s.checksum (repacked s)
  | hcrc => exact serialise_overwrites s.length (v.extractLsb' 0 8) s.checksum (repacked s)
  | checksum => exact serialise_overwrites s.length s.hcrc v (repacked s)
  | _ => exact absurd hf (by decide)

theorem markChanged_setField (f : Field) (v : Half) (s : State) :
    markChanged (setField f v s) = setField f v (markChanged s) := by
  cases f <;> rfl

theorem endWrite_setField_derived {f : Field} (hf : f ∈ derivedFields) (v : Half) {s : State} (hm : s.mode = .auto) :
    endWrite (setField f v s) = endWrite s := by
  simp only [endWrite, setField_mode, hm, markChanged_setField, recalc_setField_derived hf]

theorem setField_cmd_self (s : State) : setField .cmd (s.cmd.setWidth 16) s = s := by
  have hcmd : (s.cmd.setWidth 16).extractLsb' 0 8 = s.cmd := by
    apply BitVec.eq_of_toNat_eq
    simpa [BitVec.extractLsb'_toNat] using s.cmd.isLt
  rw [setField, hcmd]

/-- Settles O41: both writes end as if nothing had been written before `CHANGED` was set. -/
theorem autoWrfToDerivedRegisterIsLost : Obligations.AutoWrfToDerivedRegisterIsLost := by
  intro fsel f v s hf hd hv hm
  have hcmd : (s.cmd.setWidth 16).toNat < 2 ^ fieldWidth .cmd := by
    rw [BitVec.toNat_setWidth_of_le (by omega)]
    exact s.cmd.isLt
  rw [(writesField_wrf hf hv s).exec_eq, (writesField_wrf rfl hcmd s).exec_eq, endWrite_setField_derived hd v hm,
    setField_cmd_self]

/-! ### WRRAW -/

/-- R71, R72: the command of a WRRAW, its count as two bytes. -/
theorem encode_wrraw (data : List Byte) :
    encode (.wrraw data) =
      [0x5F, BitVec.ofNat 8 (data.length % 256), BitVec.ofNat 8 (data.length / 256)] ++ data := by
  have hlo : loByte (BitVec.ofNat 16 data.length) = BitVec.ofNat 8 (data.length % 256) := by
    apply BitVec.eq_of_toNat_eq
    rw [loByte_toNat, BitVec.toNat_ofNat, BitVec.toNat_ofNat]
    omega
  have hhi : hiByte (BitVec.ofNat 16 data.length) = BitVec.ofNat 8 (data.length / 256) := by
    apply BitVec.eq_of_toNat_eq
    rw [hiByte_toNat, BitVec.toNat_ofNat, BitVec.toNat_ofNat]
    omega
  rw [← hlo, ← hhi]
  rfl

/-- Settles O44: the operation reads nothing, and its command is decoded whole. -/
theorem wrrawIsAlwaysRefused : Obligations.WrrawIsAlwaysRefused := by
  refine ⟨rfl, fun data s => ⟨rfl, fun hlen rest hrst hport => ?_⟩⟩
  have hd : decode s.port = .instr (.wrraw data) rest := by
    rw [hport, ← encode_wrraw]
    exact decode_encode_append (.wrraw data) rest hlen
  exact step_of_decode hrst hd

end Sys2Proof.Machine
end

section
/-! PROOFS. `MODE` and `CHANGED`: which operations write them, and what they leave there. -/

namespace Sys2Proof.Machine

/-- R184: an operation that completes and constructs no packet leaves `MODE`. -/
theorem Completes.mode {i : Instr} {s t : State} (h : Completes i s t) (hc : constructs i = false) :
    t.mode = s.mode := by
  cases h with
  | accumulate ha =>
    obtain ⟨c16, c8, rfl⟩ := ha.frame
    rfl
  | repack hp hr =>
    obtain ⟨-, -, -, ⟨hmode, -⟩, -⟩ := hr.frame
    exact hmode
  | validate hp h3 hn => rfl
  | encode hp hm hu =>
    obtain ⟨-, rfl⟩ := (serialise_next s _).1 hu
    rfl
  | new hm hr hu => exact absurd hc (by simp [constructs])
  | @writeAuto _ _ w _ hp hm hw hu =>
    obtain ⟨-, rfl⟩ := (recalc_next (markChanged w) _).1 hu
    exact hw.mode
  | writeFrozen hp hm hw => exact hw.mode
  | decode h13 hbuf hmin hm h0 => exact absurd hc (by simp [constructs])

theorem Completes.mode_of_decode {m : Byte} {data : List Byte} {s t : State} (h : Completes (.decode m data) s t) :
    modeOperand m = some t.mode := by
  cases h with
  | accumulate h | repack _ h | writeAuto _ _ h _ | writeFrozen _ _ h => cases h
  | decode h13 hbuf hmin hm h0 => exact hm

/-- R154: a NEW that completes has the mode operand of auto mode, and leaves auto mode. -/
theorem Completes.mode_of_new {a : NewArgs} {s t : State} (h : Completes (.new a) s t) :
    modeOperand a.m = some t.mode := by
  cases h with
  | accumulate h | repack _ h | writeAuto _ _ h _ | writeFrozen _ _ h => cases h
  | new hm hr hu =>
    obtain ⟨-, rfl⟩ := (serialise_next (construct .auto (loadFields a s)) _).1 hu
    exact hm

/-- Settles O48: an error writes `ERR` alone; a construction that completes writes its operand. -/
theorem modeIsFixedAtConstruction : Obligations.ModeIsFixedAtConstruction := by
  intro i s t h
  refine ⟨fun hc => ?_, fun hne => ?_, ?_, ?_⟩
  · obtain ⟨e, -, rfl⟩ | hcomp := exec_next h
    · rfl
    · exact hcomp.mode hc
  · obtain ⟨e, -, rfl⟩ | hcomp := exec_next h
    · rfl
    · exact absurd hcomp.err hne
  · rintro m data rfl hok
    exact modeOperand_eq_some m t.mode (exec_next_ok h hok).mode_of_decode
  · rintro a rfl hok
    exact modeOperand_eq_some a.m t.mode (exec_next_ok h hok).mode_of_new

/-- R20, R185: `CHANGED` after an operation that completes: clear after a construction, set after a field write, and
else as it was. -/
theorem Completes.changed {i : Instr} {s t : State} (h : Completes i s t) :
    t.changed = (!constructs i && (writesField i || s.changed)) := by
  cases h with
  | accumulate ha => cases ha <;> rfl
  | repack hp hr => cases hr <;> rfl
  | validate hp h3 hn => rfl
  | encode hp hm hu =>
    obtain ⟨-, rfl⟩ := (serialise_next s _).1 hu
    rfl
  | @new a _ _ hm hr hu =>
    obtain ⟨-, rfl⟩ := (serialise_next (construct .auto (loadFields a s)) _).1 hu
    rfl
  | @writeAuto _ _ w _ hp hm hw hu =>
    obtain ⟨-, rfl⟩ := (recalc_next (markChanged w) _).1 hu
    cases hw <;> rfl
  | writeFrozen hp hm hw => cases hw <;> rfl
  | decode h13 hbuf hmin hm h0 => rfl

/-- Settles O49: an error writes `ERR` alone; an operation that completes leaves what its kind says. -/
theorem changedIsMonotoneBetweenConstructions : Obligations.ChangedIsMonotoneBetweenConstructions := by
  refine ⟨rfl, fun i s t h => ⟨fun hc hok => ?_, fun hw hok => ?_, fun hkeep => ?_⟩⟩
  · simp [(exec_next_ok h hok).changed, hc]
  · simp [(exec_next_ok h hok).changed, hw, constructs_of_writesField hw]
  · obtain ⟨e, -, rfl⟩ | hcomp := exec_next h
    · rfl
    · obtain ⟨hc, hw⟩ := hkeep.resolve_left fun hne => hne hcomp.err
      simp [hcomp.changed, hc, hw]

end Sys2Proof.Machine
end

section
/-! PROOFS. The errors: what a failed operation leaves, and which errors an operation can end with. -/

namespace Sys2Proof.Machine

/-- R206, R207: whether an operation failed can be read from the `ERR` it leaves, because one that completes leaves
OK. -/
theorem exec_next_error {i : Instr} {s t : State} (h : exec i s = .next t) (hne : t.err ≠ .ok) :
    ∃ e ∈ errorsOf i, t = raise e s :=
  (exec_next h).resolve_right fun hc => hne hc.err

/-- Settles O45: a failed operation has raised its error and done nothing more. -/
theorem errorsChangeNothingElse : Obligations.ErrorsChangeNothingElse := by
  intro i s t h hne
  obtain ⟨e, -, rfl⟩ := exec_next_error h hne
  rfl

/-- Settles O46: an operation completes with OK or raises an error of its row, and WRRAW cannot complete. -/
theorem errorsByOperation : Obligations.ErrorsByOperation := by
  refine ⟨fun i s t h => ?_, fun data s t h hok => ?_, malformedHex_notMem_errorsOf, by decide⟩
  · obtain ⟨e, he, rfl⟩ | hc := exec_next h
    · exact .inr he
    · exact .inl hc.err
  · exact not_completes_wrraw (exec_next_ok h hok)

end Sys2Proof.Machine
end

section
/-! PROOFS. The reset input: it holds the block in its reset state, and its release loses what the host sent. -/

namespace Sys2Proof.Machine

/-- R230: with the reset input asserted no command is read, whatever is on the port. -/
theorem step_of_asserted {s : State} (hrst : s.rst = true) : step s = .next heldInReset := if_pos hrst

@[simp] theorem heldInReset_rst : heldInReset.rst = true := rfl

/-- A release after asserting reset gives the reset state, whatever bytes came between. -/
theorem hostReleaseReset_hostSend_hostAssertReset (bytes : List Byte) (s : State) :
    hostReleaseReset (hostSend bytes (hostAssertReset s)) = State.reset :=
  hostReleaseReset_of_asserted _ (by simp)

/-- Settles O9: both the step and the release look at the reset input alone, and bytes sent leave it asserted. -/
theorem resetInputHoldsTheBlock : Obligations.ResetInputHoldsTheBlock := by
  intro s
  have hheld : (hostAssertReset s).rst = true := heldInReset_rst
  refine ⟨fun hrst => ⟨step_of_asserted hrst, hostReleaseReset_of_asserted s hrst⟩, ?_, ?_, fun bytes => ?_⟩
  · exact step_of_asserted hheld
  · exact hostReleaseReset_of_asserted _ hheld
  · exact hostReleaseReset_hostSend_hostAssertReset bytes s

end Sys2Proof.Machine
end
